-- ==== Sys2Proof/Word.lean ====
section
/-! DEFINITION. The word types of the block: bytes, 32-bit words and the byte arrays of the wire image (R5, R17, R37). -/

namespace Sys2Proof

/-- One byte of a byte array (R10). -/
abbrev Byte := BitVec 8

/-- A 32-bit word: a raw identifier word, an identifier value, a count port (R5, R17). -/
abbrev Word := BitVec 32

/-- A wire image: 16 bytes, numbered from byte 0 (R37). -/
abbrev Image := Vector Byte 16

/-- A data slot: 8 bytes (R41). -/
abbrev Slot := Vector Byte 8

end Sys2Proof
end

