-- ==== Sys2Proof/Syntax.lean ====
section
/-! DEFINITION. The commands of the block: the records they work on, the operand ports, a command as the host
issues it, and Instr, one constructor for each row of spec/opcode_table.json. -/

namespace Sys2Proof

/-- A CanId (R11): `Id = {value: u32, eff: bool, rtr: bool, err: bool}`. -/
structure CanId where
  value : Word
  eff : Bool
  rtr : Bool
  err : Bool
deriving DecidableEq, Repr

/-- The default Id (R11). -/
def CanId.default : CanId := { value := 0, eff := false, rtr := false, err := false }

/-- A deserialized frame (R68): the identifier, the length byte as read, the whole data slot. -/
structure CanFrame where
  id : CanId
  len : Byte
  data : Slot
deriving DecidableEq, Repr

/-- One constructor for each row of the opcode table (R49, R52), carrying the values of the ports that the command
reads (R50) and no other: "A command consists of the opcode together with the values on these ports" (R17). -/
inductive Instr where
  /-- 0x0 NOP (R90). -/
  | nop
  /-- 0x1 ID_ENCODE (R62): `in.id`. -/
  | idEncode (id : CanId)
  /-- 0x2 ID_DECODE (R63): `in.raw`. -/
  | idDecode (raw : Word)
  /-- 0x3 ID_CHECK (R64): `in.id`. -/
  | idCheck (id : CanId)
  /-- 0x4 FRAME_PACK (R70): `in.id`, `in.plen`, `in.payload`. -/
  | framePack (id : CanId) (plen : Word) (payload : Slot)
  /-- 0x5 FRAME_UNPACK (R71): `in.frame`. -/
  | frameUnpack (frame : Image)
  /-- 0x6 FRAME_CHECK (R72): `in.frame`. -/
  | frameCheck (frame : Image)
  /-- 0x7 TX_PREP (R75): `in.id`, `in.plen`, `in.payload`. -/
  | txPrep (id : CanId) (plen : Word) (payload : Slot)
  /-- 0x8 RX_PUSH (R78): `in.chunk`, `in.clen`. -/
  | rxPush (chunk : Image) (clen : BitVec 5)
  /-- 0x9 RX_ACCEPT (R79): `in.cap`. -/
  | rxAccept (cap : Word)
  /-- 0xA FILTER_GEN (R86): `in.id`. -/
  | filterGen (id : CanId)
  /-- 0xB, reserved (R52). -/
  | reservedB
  /-- 0xC, reserved (R52). -/
  | reservedC
  /-- 0xD, reserved (R52). -/
  | reservedD
  /-- 0xE, reserved (R52). -/
  | reservedE
  /-- 0xF, reserved (R52). -/
  | reservedF
deriving DecidableEq, Repr

/-- The operand ports of R17, by name. -/
inductive PortName where
  | value
  | eff
  | rtr
  | err
  | raw
  | plen
  | payload
  | frame
  | chunk
  | clen
  | cap
deriving DecidableEq, Repr

/-- The values on the operand ports when a command is issued (R17). A port is as wide as its type: it "cannot carry
a value outside its width" (R57). -/
structure Ports where
  value : Word
  eff : Bool
  rtr : Bool
  err : Bool
  raw : Word
  plen : Word
  payload : Slot
  frame : Image
  chunk : Image
  clen : BitVec 5
  cap : Word
deriving DecidableEq, Repr

/-- A command as the host issues it (R17, R47): the 4-bit opcode `in.op` and the value on every port. -/
structure Command where
  op : BitVec 4
  ports : Ports
deriving DecidableEq, Repr

/-- One row of the opcode table (spec/opcode_table.json, R49, R50). -/
structure OpcodeRow where
  mnemonic : String
  code : BitVec 4
  mask : BitVec 4
  ports : List PortName
  reserved : Bool
deriving DecidableEq, Repr

/-- Why a number is no command word (R47: a command word has 4 bits). -/
inductive DecodeReject where
  /-- The number does not fit the 4-bit opcode port (R57). -/
  | widerThanOpcodePort (w : Nat)
deriving DecidableEq, Repr

end Sys2Proof
end

