-- ==== Sys2Proof/WellFormed.lean ====
section
/-! DEFINITION. Which instructions are commands of the block. There is no check on operands: "Port values never make
a command illegal" (R56) and "Port values need no range check beyond those the command rules make" (R57), so the one
check is that the opcode is no reserved one (R49, R52). -/

namespace Sys2Proof

/-- The instruction is one of the 11 commands of R49, not one of the reserved opcodes of R52. A reserved opcode still
decodes and runs (it raises IllegalOp, R94): notes/assumptions/9.md. -/
def Instr.wf (i : Instr) : Bool :=
  match i with
  | .nop => true
  | .idEncode _ => true
  | .idDecode _ => true
  | .idCheck _ => true
  | .framePack _ _ _ => true
  | .frameUnpack _ => true
  | .frameCheck _ => true
  | .txPrep _ _ _ => true
  | .rxPush _ _ => true
  | .rxAccept _ => true
  | .filterGen _ => true
  | .reservedB => false
  | .reservedC => false
  | .reservedD => false
  | .reservedE => false
  | .reservedF => false

end Sys2Proof
end

