-- ==== Sys2Proof/Decode.lean ====
section
/-! DEFINITION. The opcode table (R49, R50), the decoder from an issued command to an instruction (R47, R53, R56,
R58), and the encoder back. -/

namespace Sys2Proof

/-- The four ports written `in.id` (R50). -/
def idPorts : List PortName := [.value, .eff, .rtr, .err]

/-- The rows of the commands (R49), with the ports each reads (R50). -/
def commandRows : List OpcodeRow :=
  [ ⟨"NOP", 0x0, 0xF, [], false⟩,
    ⟨"ID_ENCODE", 0x1, 0xF, idPorts, false⟩,
    ⟨"ID_DECODE", 0x2, 0xF, [.raw], false⟩,
    ⟨"ID_CHECK", 0x3, 0xF, idPorts, false⟩,
    ⟨"FRAME_PACK", 0x4, 0xF, idPorts ++ [.plen, .payload], false⟩,
    ⟨"FRAME_UNPACK", 0x5, 0xF, [.frame], false⟩,
    ⟨"FRAME_CHECK", 0x6, 0xF, [.frame], false⟩,
    ⟨"TX_PREP", 0x7, 0xF, idPorts ++ [.plen, .payload], false⟩,
    ⟨"RX_PUSH", 0x8, 0xF, [.chunk, .clen], false⟩,
    ⟨"RX_ACCEPT", 0x9, 0xF, [.cap], false⟩,
    ⟨"FILTER_GEN", 0xA, 0xF, idPorts, false⟩ ]

/-- The reserved rows (R52). -/
def reservedRows : List OpcodeRow :=
  [ ⟨"RESERVED_0xB", 0xB, 0xF, [], true⟩,
    ⟨"RESERVED_0xC", 0xC, 0xF, [], true⟩,
    ⟨"RESERVED_0xD", 0xD, 0xF, [], true⟩,
    ⟨"RESERVED_0xE", 0xE, 0xF, [], true⟩,
    ⟨"RESERVED_0xF", 0xF, 0xF, [], true⟩ ]

/-- The whole opcode table. -/
def opcodeTable : List OpcodeRow := commandRows ++ reservedRows

/-- The opcode has the row's fixed bits. -/
def OpcodeRow.fits (r : OpcodeRow) (op : BitVec 4) : Bool := op &&& r.mask == r.code

/-- The ports that R50 lists for an opcode, from the table. -/
def portsRead (op : BitVec 4) : List PortName :=
  match opcodeTable.find? (·.fits op) with
  | some r => r.ports
  | none => []

/-- The group `in.id` (R50): the Id record on the ports value, eff, rtr, err. -/
def Ports.id (p : Ports) : CanId := { value := p.value, eff := p.eff, rtr := p.rtr, err := p.err }

/-- The dispatch of R58: total on every opcode (R53), from the opcode alone (R56), taking up the ports of R50. -/
def decode (c : Command) : Instr :=
  match c.op.toNat with
  | 0x0 => .nop
  | 0x1 => .idEncode c.ports.id
  | 0x2 => .idDecode c.ports.raw
  | 0x3 => .idCheck c.ports.id
  | 0x4 => .framePack c.ports.id c.ports.plen c.ports.payload
  | 0x5 => .frameUnpack c.ports.frame
  | 0x6 => .frameCheck c.ports.frame
  | 0x7 => .txPrep c.ports.id c.ports.plen c.ports.payload
  | 0x8 => .rxPush c.ports.chunk c.ports.clen
  | 0x9 => .rxAccept c.ports.cap
  | 0xA => .filterGen c.ports.id
  | 0xB => .reservedB
  | 0xC => .reservedC
  | 0xD => .reservedD
  | 0xE => .reservedE
  | _ => .reservedF

/-- Every port at zero. -/
def Ports.zero : Ports :=
  { value := 0, eff := false, rtr := false, err := false, raw := 0, plen := 0,
    payload := Vector.replicate 8 0, frame := Vector.replicate 16 0, chunk := Vector.replicate 16 0,
    clen := 0, cap := 0 }

/-- The ports with an Id on the group `in.id` (R50), the others at zero. -/
def Ports.ofId (id : CanId) : Ports :=
  { Ports.zero with value := id.value, eff := id.eff, rtr := id.rtr, err := id.err }

/-- The opcode of an instruction (R49, R52). -/
def opcode (i : Instr) : BitVec 4 :=
  match i with
  | .nop => 0x0
  | .idEncode _ => 0x1
  | .idDecode _ => 0x2
  | .idCheck _ => 0x3
  | .framePack _ _ _ => 0x4
  | .frameUnpack _ => 0x5
  | .frameCheck _ => 0x6
  | .txPrep _ _ _ => 0x7
  | .rxPush _ _ => 0x8
  | .rxAccept _ => 0x9
  | .filterGen _ => 0xA
  | .reservedB => 0xB
  | .reservedC => 0xC
  | .reservedD => 0xD
  | .reservedE => 0xE
  | .reservedF => 0xF

/-- The port values with which a host issues an instruction: its operands on the ports of R50. The ports the command
does not read are put at zero; they have no effect (R50). DESIGN CHOICE, safe: notes/assumptions/10.md. -/
def portValues (i : Instr) : Ports :=
  match i with
  | .nop => Ports.zero
  | .idEncode id => Ports.ofId id
  | .idDecode raw => { Ports.zero with raw := raw }
  | .idCheck id => Ports.ofId id
  | .framePack id plen payload => { Ports.ofId id with plen := plen, payload := payload }
  | .frameUnpack frame => { Ports.zero with frame := frame }
  | .frameCheck frame => { Ports.zero with frame := frame }
  | .txPrep id plen payload => { Ports.ofId id with plen := plen, payload := payload }
  | .rxPush chunk clen => { Ports.zero with chunk := chunk, clen := clen }
  | .rxAccept cap => { Ports.zero with cap := cap }
  | .filterGen id => Ports.ofId id
  | .reservedB => Ports.zero
  | .reservedC => Ports.zero
  | .reservedD => Ports.zero
  | .reservedE => Ports.zero
  | .reservedF => Ports.zero

/-- The command that stands for an instruction. -/
def encode (i : Instr) : Command := { op := opcode i, ports := portValues i }

/-- The command whose command word is the number `w`, every operand port at zero; a number that does not fit the 4-bit
opcode port is rejected by name. -/
def commandOfWord (w : Nat) : Except DecodeReject Command :=
  if w < 16 then .ok { op := BitVec.ofNat 4 w, ports := Ports.zero } else .error (.widerThanOpcodePort w)

/-- The instruction the decoder reads from a word numbered as spec/opcode_table.json numbers it, its operand ports at
zero (the table gives them no bits). `none` for a number that is no 4-bit command word: notes/assumptions/11.md. -/
def decodeTableWord (_nbits w : Nat) : Option Instr :=
  match commandOfWord w with
  | .ok c => some (decode c)
  | .error _ => none

end Sys2Proof
end

