-- ==== Sys2Proof/Config.lean ====
section
/-! DEFINITION. The parameters of the block (R6): the byte order of the identifier in the wire image and the
places of the three flags in the raw word. Which position a layout gives each flag is said in Machine/Flags.lean. -/

namespace Sys2Proof

/-- EFF_POS, RTR_POS, ERR_POS together (R6): "must be a permutation of 31, 30, 29", so there are exactly these six.
A name lists the flags from bit 31 down to bit 29. -/
inductive FlagLayout where
  | effRtrErr
  | effErrRtr
  | rtrEffErr
  | rtrErrEff
  | errEffRtr
  | errRtrEff
deriving DecidableEq, Repr

/-- The parameters of R6. "No other parameter exists." -/
structure Config where
  /-- HOST_LE: the identifier's bytes stand in little-endian order in the wire image (R38). -/
  hostLE : Bool
  /-- EFF_POS, RTR_POS and ERR_POS (R36). -/
  flags : FlagLayout
deriving DecidableEq, Repr

/-- The defaults of R6: HOST_LE = true and EFF, RTR, ERR at bits 31, 30, 29.
UNVERIFIED (notes/assumptions/4.md): the spec takes the positions from general knowledge (D4). -/
def Config.default : Config := { hostLE := true, flags := .effRtrErr }

end Sys2Proof
end

