-- ==== Sys2Proof/Machine/State.lean ====
section
/-! DEFINITION. The state: the 15 registers of R18, the parameters of R6 and the host's coming actions; the reasons a
step can stop (none of them is ever given); the state after reset (R108). -/

namespace Sys2Proof.Machine

/-- What the host does to the block: it issues a command on the port (R17), or it resets the block (R109). An idle
port (R91) is no action. -/
inductive HostAction where
  | command (c : Command)
  | reset
deriving DecidableEq, Repr

/-- The state. The registers are those of R18, in its order; the last two fields are the model's own. -/
structure State where
  /-- `R_RAW`, 32 bits (R19). -/
  rRaw : Word
  /-- `R_ID`, 35 bits in four fields (R20). -/
  rId : CanId
  /-- `R_VALID`, 1 bit (R21). -/
  rValid : Bool
  /-- `R_FRAME`, 16 bytes (R22). -/
  rFrame : Image
  /-- `R_LEN`, 8 bits (R23). -/
  rLen : BitVec 8
  /-- `R_DATA`, 8 bytes (R24). -/
  rData : Slot
  /-- `R_BE`, 8 bits (R25). -/
  rBe : BitVec 8
  /-- `F_ID`, 32 bits (R26). -/
  fId : Word
  /-- `F_MASK`, 32 bits (R26). -/
  fMask : Word
  /-- `TX_STROBE`, 1 bit (R27). -/
  txStrobe : Bool
  /-- `ERR_CODE`, 2 bits (R28). -/
  errCode : BitVec 2
  /-- `ERR_DETAIL`, 3 bits (R29). -/
  errDetail : BitVec 3
  /-- `RX_STATUS`, 2 bits (R30). -/
  rxStatus : BitVec 2
  /-- `STAGE`, 16 bytes (R31). -/
  stage : Image
  /-- `STAGE_CNT`, 5 bits (R32). -/
  stageCnt : BitVec 5
  /-- The parameters of R6; no step changes them (R38, R108). DESIGN CHOICE: notes/assumptions/2.md. -/
  cfg : Config
  /-- The host's coming actions, the next one first (R16, R45). DESIGN CHOICE: notes/assumptions/1.md. -/
  pending : List HostAction
deriving DecidableEq, Repr

/-- The reasons the machine could stop with a fault: none. No command stops the block: an error is a status that the
failing command writes (R92, R93, R94, R99), and every command completes in its step (R96).
Safe: nothing raises one (notes/assumptions/12.md). -/
inductive Fault where
deriving DecidableEq, Repr

/-- The reasons an instruction could be refused. -/
inductive Refusal where
  /-- Raised by an arm of exec whose instruction has no meaning yet; no arm is left so. Safe. -/
  | notModelled (mnemonic : String)
deriving DecidableEq, Repr

/-- The state right after reset (R108): every register zero, RX_STATUS IDLE, ERR_CODE NONE, R_ID the default Id.
The parameters are the defaults of R6, and the host has no action pending. -/
def State.reset : State :=
  { rRaw := 0, rId := { value := 0, eff := false, rtr := false, err := false }, rValid := false,
    rFrame := Vector.replicate 16 0, rLen := 0, rData := Vector.replicate 8 0, rBe := 0, fId := 0, fMask := 0,
    txStrobe := false, errCode := 0, errDetail := 0, rxStatus := 0, stage := Vector.replicate 16 0, stageCnt := 0,
    cfg := Config.default, pending := [] }

end Sys2Proof.Machine
end

