-- ==== Sys2Proof/Machine/Flags.lean ====
section
/-! DEFINITION. The flag bits of the raw word (R6, R7, R36), the codes of the status registers (R28 to R30), the
byte-enable mask (R80) and the derived output signals (R33). The block has no condition codes (R34). -/

namespace Sys2Proof.Machine

/-- EFF_POS (R6). -/
def effPos (l : FlagLayout) : Nat :=
  match l with
  | .effRtrErr => 31
  | .effErrRtr => 31
  | .rtrEffErr => 30
  | .rtrErrEff => 29
  | .errEffRtr => 30
  | .errRtrEff => 29

/-- RTR_POS (R6). -/
def rtrPos (l : FlagLayout) : Nat :=
  match l with
  | .effRtrErr => 30
  | .effErrRtr => 29
  | .rtrEffErr => 31
  | .rtrErrEff => 31
  | .errEffRtr => 29
  | .errRtrEff => 30

/-- ERR_POS (R6). -/
def errPos (l : FlagLayout) : Nat :=
  match l with
  | .effRtrErr => 29
  | .effErrRtr => 30
  | .rtrEffErr => 29
  | .rtrErrEff => 30
  | .errEffRtr => 31
  | .errRtrEff => 31

/-- VALUE_MASK (R7): the low 29 bits, the numeric value field. -/
def valueMask : Word := 0x1FFFFFFF

/-- SFF_MAX (R7): the largest standard identifier. -/
def sffMax : Word := 0x7FF

/-- EFF_MAX (R7): the largest extended identifier. -/
def effMax : Word := 0x1FFFFFFF

/-- `zext_32(b) << pos` (R8): a Boolean as a number, at a bit position. -/
def flagAt (b : Bool) (pos : Nat) : Word := (BitVec.ofBool b).setWidth 32 <<< pos

/-- EFF_BIT (R7). -/
def effBit (cfg : Config) : Word := 1 <<< effPos cfg.flags

/-- RTR_BIT (R7). -/
def rtrBit (cfg : Config) : Word := 1 <<< rtrPos cfg.flags

/-- ERR_BIT (R7). -/
def errBit (cfg : Config) : Word := 1 <<< errPos cfg.flags

/-- ERR_CODE 0, NONE (R28). -/
def errNone : BitVec 2 := 0

/-- ERR_CODE 1, INVALID_ARGUMENT (R28). -/
def errInvalidArgument : BitVec 2 := 1

/-- ERR_CODE 2, ILLEGAL_OP (R28). -/
def errIllegalOp : BitVec 2 := 2

/-- ERR_DETAIL 0, NONE (R29). -/
def detailNone : BitVec 3 := 0

/-- ERR_DETAIL 1, ID_INVALID (R29). -/
def detailIdInvalid : BitVec 3 := 1

/-- ERR_DETAIL 2, PAYLOAD_LEN (R29). -/
def detailPayloadLen : BitVec 3 := 2

/-- ERR_DETAIL 3, SINK_CAP (R29). -/
def detailSinkCap : BitVec 3 := 3

/-- ERR_DETAIL 4, CHUNK_LEN (R29). -/
def detailChunkLen : BitVec 3 := 4

/-- RX_STATUS 1, OK (R30). -/
def rxOk : BitVec 2 := 1

/-- RX_STATUS 2, NO_DATA (R30). -/
def rxNoData : BitVec 2 := 2

/-- RX_STATUS 3, INVALID (R30). -/
def rxInvalid : BitVec 2 := 3

/-- `(1 << len) - 1`, computed in 9 bits and stored in 8 (R8, R80). -/
def byteEnable (len : BitVec 8) : BitVec 8 := ((1#9 <<< len.toNat) - 1).setWidth 8

/-- RX_FULL (R33). -/
def rxFull (s : State) : Bool := s.stageCnt == 16

/-- RX_SUCCESS (R33). -/
def rxSuccess (s : State) : Bool := s.rxStatus == rxOk

end Sys2Proof.Machine
end

