-- ==== Sys2Proof/Machine/Operands.lean ====
section
/-! DEFINITION. The operand forms: the byte-array primitives of R10, the byte order of the identifier (R38), and the
range checks that the command rules make on count ports (R70, R78, R79). -/

namespace Sys2Proof.Machine

/-- `MemRead(A + off, n)` (R10): the bytes A[off] to A[off+n-1]. -/
def memRead {k : Nat} (a : Vector Byte k) (off n : Nat) (h : off + n ≤ k) : Vector Byte n :=
  Vector.ofFn fun i => a[off + i.val]

/-- `MemWrite(A + off, n, bs)` (R10): A[off+i] <- bs[i] for i below n, the other bytes kept. -/
def memWrite {k : Nat} (a : Vector Byte k) (off n : Nat) (bs : Vector Byte k) : Vector Byte k :=
  Vector.ofFn fun i => if off ≤ i.val ∧ i.val < off + n then bs[i.val - off] else a[i.val]

/-- `le32` (R10). -/
def le32 (b0 b1 b2 b3 : Byte) : Word :=
  b0.setWidth 32 ||| b1.setWidth 32 <<< 8 ||| b2.setWidth 32 <<< 16 ||| b3.setWidth 32 <<< 24

/-- `be32` (R10). -/
def be32 (b0 b1 b2 b3 : Byte) : Word :=
  b0.setWidth 32 <<< 24 ||| b1.setWidth 32 <<< 16 ||| b2.setWidth 32 <<< 8 ||| b3.setWidth 32

/-- `word32` (R10): the raw word of four bytes, by HOST_LE. -/
def word32 (cfg : Config) (bs : Vector Byte 4) : Word :=
  if cfg.hostLE then le32 bs[0] bs[1] bs[2] bs[3] else be32 bs[0] bs[1] bs[2] bs[3]

/-- `bytes32` (R10): the four bytes of a raw word, by HOST_LE. -/
def bytes32 (cfg : Config) (w : Word) : Vector Byte 4 :=
  if cfg.hostLE then #v[w.extractLsb' 0 8, w.extractLsb' 8 8, w.extractLsb' 16 8, w.extractLsb' 24 8]
  else #v[w.extractLsb' 24 8, w.extractLsb' 16 8, w.extractLsb' 8 8, w.extractLsb' 0 8]

/-- Byte i of the data slot that carries n payload bytes: the payload in front, then zeros (R41, R51). -/
def slotByte (n : Word) (payload : Slot) (i : Fin 8) : Byte := if i.val < n.toNat then payload[i] else 0

/-- `in.plen > 8` (R70, R75), unsigned. -/
def payloadTooLong (plen : Word) : Bool := 8 < plen.toNat

/-- `in.clen > 16 - S.STAGE_CNT` (R78), computed exactly (R8): the chunk would carry the count past 16.
For a count above 16, which is never reached (R32), see notes/assumptions/13.md. -/
def chunkTooLong (stageCnt clen : BitVec 5) : Bool := 16 < stageCnt.toNat + clen.toNat

/-- `in.cap < 8` (R79), unsigned. -/
def sinkTooSmall (cap : Word) : Bool := cap.toNat < 8

end Sys2Proof.Machine
end

