-- ==== Sys2Proof/Machine/Ops.lean ====
section
/-! DEFINITION. The operations that the commands share: the prologue (R48), completing, taking an exception (R93,
R94), and the host's reset (R108, R109). There is no return from an exception: the next command's prologue overwrites
the error (R100). -/

namespace Sys2Proof.Machine

/-- The common prologue (R48): TX_STROBE, ERR_CODE and ERR_DETAIL <- 0. -/
def prologue (s : State) : State := { s with txStrobe := false, errCode := errNone, errDetail := detailNone }

/-- A command that completes: the prologue, then the command's own writes (R48). -/
def complete (writes : State → State) (s : State) : Host.Outcome State Fault Refusal := .next (writes (prologue s))

/-- R_RAW <- w (R62). -/
def setRaw (w : Word) (s : State) : State := { s with rRaw := w }

/-- R_ID <- id (R63). -/
def setId (id : CanId) (s : State) : State := { s with rId := id }

/-- R_VALID <- v (R64, R72). -/
def setValid (v : Bool) (s : State) : State := { s with rValid := v }

/-- R_FRAME <- w (R70). -/
def setFrame (w : Image) (s : State) : State := { s with rFrame := w }

/-- ERR_CODE <- code and ERR_DETAIL <- detail (R93, R94). -/
def setError (code : BitVec 2) (detail : BitVec 3) (s : State) : State :=
  { s with errCode := code, errDetail := detail }

/-- Taking an exception: ERR_CODE and ERR_DETAIL are written over the prologue, and nothing else (R93, R94, R99).
There is no pc and no mode to save or change (R99). -/
def takeException (code : BitVec 2) (detail : BitVec 3) (s : State) : Host.Outcome State Fault Refusal :=
  .next (setError code detail (prologue s))

/-- `raise InvalidArgument(d)` (R93). -/
def raiseInvalidArgument (detail : BitVec 3) (s : State) : Host.Outcome State Fault Refusal :=
  takeException errInvalidArgument detail s

/-- `raise IllegalOp()` (R94). -/
def raiseIllegalOp (s : State) : Host.Outcome State Fault Refusal := takeException errIllegalOp detailNone s

/-- The host resets the block (R108, R109): every register takes its reset value; the parameters stay as configured
and the host's later actions stay to come. -/
def resetBlock (s : State) : State := { State.reset with cfg := s.cfg, pending := s.pending }

end Sys2Proof.Machine
end

