-- ==== Sys2Proof/Machine/CanIdPacker.lean ====
section
/-! DEFINITION. The CanId flag packer (spec/40_canid.md): encodeId, decodeId, idValid and the commands ID_ENCODE,
ID_DECODE, ID_CHECK. -/

namespace Sys2Proof.Machine

/-- `encodeId` (R59): the low 29 value bits and the three flags at their positions. -/
def encodeId (cfg : Config) (id : CanId) : Word :=
  (id.value &&& valueMask) ||| flagAt id.eff (effPos cfg.flags) ||| flagAt id.rtr (rtrPos cfg.flags)
    ||| flagAt id.err (errPos cfg.flags)

/-- `decodeId` (R60). -/
def decodeId (cfg : Config) (raw : Word) : CanId :=
  { value := raw &&& valueMask
    eff := raw.getLsbD (effPos cfg.flags)
    rtr := raw.getLsbD (rtrPos cfg.flags)
    err := raw.getLsbD (errPos cfg.flags) }

/-- `idValid` (R61): the error flag is clear and the value fits the addressing mode, unsigned over all 32 bits. -/
def idValid (id : CanId) : Bool := !id.err && (if id.eff then id.value.ule effMax else id.value.ule sffMax)

/-- ID_ENCODE (R62). -/
def execIdEncode (id : CanId) (s : State) : Host.Outcome State Fault Refusal :=
  complete (fun t => setRaw (encodeId t.cfg id) t) s

/-- ID_DECODE (R63). -/
def execIdDecode (raw : Word) (s : State) : Host.Outcome State Fault Refusal :=
  complete (fun t => setId (decodeId t.cfg raw) t) s

/-- ID_CHECK (R64). -/
def execIdCheck (id : CanId) (s : State) : Host.Outcome State Fault Refusal :=
  complete (setValid (idValid id)) s

end Sys2Proof.Machine
end

