-- ==== Sys2Proof/Machine/FilterMask.lean ====
section
/-! DEFINITION. The filter mask generator (spec/43_filter.md): filterPair and FILTER_GEN. -/

namespace Sys2Proof.Machine

/-- can_id of `filterPair` (R85). -/
def filterId (cfg : Config) (id : CanId) : Word := encodeId cfg id

/-- can_mask of `filterPair` (R85): `id.value | EFF_BIT | RTR_BIT`, by the formula (C2), not a full field mask. -/
def filterMask (cfg : Config) (id : CanId) : Word := id.value ||| effBit cfg ||| rtrBit cfg

/-- What a FILTER_GEN of a valid id writes (R86). -/
def setFilter (id : CanId) (s : State) : State := { s with fId := filterId s.cfg id, fMask := filterMask s.cfg id }

/-- FILTER_GEN (R86). -/
def execFilterGen (id : CanId) (s : State) : Host.Outcome State Fault Refusal :=
  if !idValid id then raiseInvalidArgument detailIdInvalid s else complete (setFilter id) s

end Sys2Proof.Machine
end

