-- ==== Sys2Proof/Machine/Misc.lean ====
section
/-! DEFINITION. NOP (spec/44_misc.md) and the reserved opcodes (spec/30_encoding.md R52). -/

namespace Sys2Proof.Machine

/-- NOP (R90): the prologue and nothing beyond it. -/
def execNop (s : State) : Host.Outcome State Fault Refusal := complete (fun t => t) s

/-- Opcode 0xB (R52, R94). -/
def execReservedB (s : State) : Host.Outcome State Fault Refusal := raiseIllegalOp s

/-- Opcode 0xC (R52, R94). -/
def execReservedC (s : State) : Host.Outcome State Fault Refusal := raiseIllegalOp s

/-- Opcode 0xD (R52, R94). -/
def execReservedD (s : State) : Host.Outcome State Fault Refusal := raiseIllegalOp s

/-- Opcode 0xE (R52, R94). -/
def execReservedE (s : State) : Host.Outcome State Fault Refusal := raiseIllegalOp s

/-- Opcode 0xF (R52, R94). -/
def execReservedF (s : State) : Host.Outcome State Fault Refusal := raiseIllegalOp s

end Sys2Proof.Machine
end

