-- ==== Sys2Proof/Machine/FrameSerializer.lean ====
section
/-! DEFINITION. The CanFrame serializer (spec/41_canframe.md): packFrame, unpackFrame, frameValid, frame equality, and
the commands FRAME_PACK, FRAME_UNPACK, FRAME_CHECK. -/

namespace Sys2Proof.Machine

/-- Byte i of the image that `packFrame` returns (R67): the id bytes, the length, three zero padding bytes, then the
data slot with the payload in front and zeros behind it. -/
def imageByte (cfg : Config) (id : CanId) (n : Word) (payload : Slot) (i : Fin 16) : Byte :=
  if h : i.val < 4 then (bytes32 cfg (encodeId cfg id))[i.val]
  else if i.val = 4 then n.setWidth 8
  else if i.val < 8 then 0
  else slotByte n payload ⟨i.val - 8, by omega⟩

/-- `packFrame` (R67). The spec defines it for n ≤ 8 only, and every command checks that first (R70, R75). -/
def packFrame (cfg : Config) (id : CanId) (n : Word) (payload : Slot) : Image :=
  Vector.ofFn (imageByte cfg id n payload)

/-- `unpackFrame` (R68): bytes 5 to 7 are not read, all 8 data bytes are returned. -/
def unpackFrame (cfg : Config) (w : Image) : CanFrame :=
  { id := decodeId cfg (word32 cfg (memRead w 0 4 (by decide)))
    len := w[4]
    data := memRead w 8 8 (by decide) }

/-- `frameValid` (R69): the id is valid and the length, unsigned 8-bit, is at most 8. -/
def frameValid (id : CanId) (len : BitVec 8) : Bool := idValid id && len.ule 8

/-- Frame equality (R73): ids and lengths equal, and the first min(len, 8) data bytes. -/
def sameFrame (f g : CanFrame) : Bool :=
  f.id == g.id && f.len == g.len
    && (List.finRange 8).all fun i => decide (f.len.toNat ≤ i.val) || f.data[i] == g.data[i]

/-- FRAME_PACK (R70): the id is not checked. -/
def execFramePack (id : CanId) (plen : Word) (payload : Slot) (s : State) : Host.Outcome State Fault Refusal :=
  if payloadTooLong plen then raiseInvalidArgument detailPayloadLen s
  else complete (fun t => setFrame (packFrame t.cfg id plen payload) t) s

/-- What FRAME_UNPACK writes (R71). -/
def unpackInto (frame : Image) (s : State) : State :=
  { s with
    rId := (unpackFrame s.cfg frame).id
    rLen := (unpackFrame s.cfg frame).len
    rData := (unpackFrame s.cfg frame).data }

/-- FRAME_UNPACK (R71). -/
def execFrameUnpack (frame : Image) (s : State) : Host.Outcome State Fault Refusal := complete (unpackInto frame) s

/-- FRAME_CHECK (R72). -/
def execFrameCheck (frame : Image) (s : State) : Host.Outcome State Fault Refusal :=
  complete (fun t => setValid (frameValid (unpackFrame t.cfg frame).id (unpackFrame t.cfg frame).len) t) s

end Sys2Proof.Machine
end

