-- ==== Sys2Proof/Machine/Transfer.lean ====
section
/-! DEFINITION. Send preparation and receive staging (spec/42_transfer.md): TX_PREP, RX_PUSH, RX_ACCEPT. -/

namespace Sys2Proof.Machine

/-- What a TX_PREP that passes its checks writes (R75). -/
def prepareSend (id : CanId) (plen : Word) (payload : Slot) (s : State) : State :=
  { s with rFrame := packFrame s.cfg id plen payload, txStrobe := true }

/-- TX_PREP (R75): the id is checked first, the payload length second (R76). -/
def execTxPrep (id : CanId) (plen : Word) (payload : Slot) (s : State) : Host.Outcome State Fault Refusal :=
  if !idValid id then raiseInvalidArgument detailIdInvalid s
  else if payloadTooLong plen then raiseInvalidArgument detailPayloadLen s
  else complete (prepareSend id plen payload) s

/-- What an RX_PUSH that fits writes (R78): the chunk's first clen bytes at index STAGE_CNT, and the count. -/
def stageChunk (chunk : Image) (clen : BitVec 5) (s : State) : State :=
  { s with stage := memWrite s.stage s.stageCnt.toNat clen.toNat chunk, stageCnt := s.stageCnt + clen }

/-- RX_PUSH (R78). -/
def execRxPush (chunk : Image) (clen : BitVec 5) (s : State) : Host.Outcome State Fault Refusal :=
  if chunkTooLong s.stageCnt clen then raiseInvalidArgument detailChunkLen s
  else complete (stageChunk chunk clen) s

/-- The identifier that NO_DATA reports (R81): decoded from the first four staged bytes when at least four are staged,
else the default Id. It is the spec's own choice among what its source allows (D16): notes/assumptions/5.md. -/
def partialId (s : State) : CanId :=
  if 4 ≤ s.stageCnt.toNat then decodeId s.cfg (word32 s.cfg (memRead s.stage 0 4 (by decide))) else CanId.default

/-- `accept_no_data` (R81). -/
def acceptNoData (s : State) : State := { s with rId := partialId s, rLen := 0, rBe := 0, rxStatus := rxNoData }

/-- `accept_invalid` (R82). -/
def acceptInvalid (id : CanId) (s : State) : State := { s with rId := id, rLen := 0, rBe := 0, rxStatus := rxInvalid }

/-- `accept_ok` (R80). -/
def acceptOk (f : CanFrame) (s : State) : State :=
  { s with rId := f.id, rLen := f.len, rData := f.data, rBe := byteEnable f.len, rxStatus := rxOk }

/-- Stage release (R83): STAGE_CNT <- 0. -/
def releaseStage (s : State) : State := { s with stageCnt := 0 }

/-- The outcome of an RX_ACCEPT whose sink is large enough, before the stage is released (R79). -/
def acceptStaged (s : State) : State :=
  if s.stageCnt.toNat < 16 then acceptNoData s
  else if !frameValid (unpackFrame s.cfg s.stage).id (unpackFrame s.cfg s.stage).len then
    acceptInvalid (unpackFrame s.cfg s.stage).id s
  else acceptOk (unpackFrame s.cfg s.stage) s

/-- RX_ACCEPT (R79). -/
def execRxAccept (cap : Word) (s : State) : Host.Outcome State Fault Refusal :=
  if sinkTooSmall cap then raiseInvalidArgument detailSinkCap s
  else complete (fun t => releaseStage (acceptStaged t)) s

end Sys2Proof.Machine
end

