-- ==== Sys2Proof/Machine/Dispatch.lean ====
section
/-! DEFINITION. The dispatch of R58: one arm per constructor of Instr. -/

namespace Sys2Proof.Machine

def exec (i : Instr) (s : State) : Host.Outcome State Fault Refusal :=
  match i with
  | .nop => Sys2Proof.Machine.execNop s
  | .idEncode id => Sys2Proof.Machine.execIdEncode id s
  | .idDecode raw => Sys2Proof.Machine.execIdDecode raw s
  | .idCheck id => Sys2Proof.Machine.execIdCheck id s
  | .framePack id plen payload => Sys2Proof.Machine.execFramePack id plen payload s
  | .frameUnpack frame => Sys2Proof.Machine.execFrameUnpack frame s
  | .frameCheck frame => Sys2Proof.Machine.execFrameCheck frame s
  | .txPrep id plen payload => Sys2Proof.Machine.execTxPrep id plen payload s
  | .rxPush chunk clen => Sys2Proof.Machine.execRxPush chunk clen s
  | .rxAccept cap => Sys2Proof.Machine.execRxAccept cap s
  | .filterGen id => Sys2Proof.Machine.execFilterGen id s
  | .reservedB => Sys2Proof.Machine.execReservedB s
  | .reservedC => Sys2Proof.Machine.execReservedC s
  | .reservedD => Sys2Proof.Machine.execReservedD s
  | .reservedE => Sys2Proof.Machine.execReservedE s
  | .reservedF => Sys2Proof.Machine.execReservedF s

end Sys2Proof.Machine
end

