-- ==== Sys2Proof/Machine/Step.lean ====
section
/-! DEFINITION. One step: the host's next action takes effect on the block (R45, R48, R91, R109). -/

namespace Sys2Proof.Machine

/-- One step. With no pending action the port is idle and nothing changes (R91); a reset resets the block (R109); a
command is decoded (R58) and run, its prologue included (R48), and is then past. -/
def step (s : State) : Host.Outcome State Fault Refusal :=
  match s.pending with
  | [] => .next s
  | .reset :: rest => .next (resetBlock { s with pending := rest })
  | .command c :: rest => exec (decode c) { s with pending := rest }

/-- `s` with the command word `w` as the host's next command, every operand port at zero: it stands for the host
issuing that command now. A number that is no 4-bit command word changes nothing. -/
def State.withFetchWord (s : State) (_nbits w : Nat) : State :=
  match commandOfWord w with
  | .ok c => { s with pending := .command c :: s.pending }
  | .error _ => s

end Sys2Proof.Machine
end

