-- ==== Sys2Proof/Machine/HostSide.lean ====
section
/-! DEFINITION. The host's side of the interface, as functions beside the machine: what the host reads after a command
and what it copies (R30, R55, R77, R84), and the expansion of its pseudo-commands (R55). No step uses them: a host's
duties are not behaviour of the block. -/

namespace Sys2Proof.Machine

/-- The pseudo-commands of R55. The reads of TRY_RECEIVE are the chunks that the socket reads returned. -/
inductive PseudoCommand where
  | send (id : CanId) (plen : Word) (payload : Slot)
  | tryReceive (reads : List (Image × BitVec 5)) (cap : Word)
  | installFilter (id : CanId)
  | isValid (id : CanId)
deriving DecidableEq, Repr

/-- The commands that a pseudo-command stands for (R55). A TRY_RECEIVE whose sink is too small issues its RX_ACCEPT
first, "must fail before any read", and no RX_PUSH. -/
def expand (p : PseudoCommand) : List Instr :=
  match p with
  | .send id plen payload => [.txPrep id plen payload]
  | .tryReceive reads cap =>
    if sinkTooSmall cap then [.rxAccept cap] else reads.map (fun r => .rxPush r.1 r.2) ++ [.rxAccept cap]
  | .installFilter id => [.filterGen id]
  | .isValid id => [.idCheck id]

/-- The host's actions that issue these instructions in order (R45). -/
def issue (is : List Instr) : List HostAction := is.map fun i => .command (encode i)

/-- The image that the host writes to the socket after a command: R_FRAME when TX_STROBE = 1, else none (R55, R77). -/
def socketImage (s : State) : Option Image := if s.txStrobe then some s.rFrame else none

/-- The pair that INSTALL_FILTER installs after its FILTER_GEN: (F_ID, F_MASK) when ERR_CODE is NONE (R55, R89). -/
def filterToInstall (s : State) : Option (Word × Word) :=
  if s.errCode == errNone then some (s.fId, s.fMask) else none

/-- The source's tuple (success, length, id) after an RX_ACCEPT (R30, R33). -/
def receiveResult (s : State) : Bool × BitVec 8 × CanId := (rxSuccess s, s.rLen, s.rId)

/-- The sink copy (R84): byte i of the sink becomes R_DATA[i] for exactly those i with R_BE[i] = 1. -/
def sinkCopy (s : State) (sink : List Byte) : List Byte :=
  sink.zipIdx.map fun (b, i) => if h : i < 8 then if s.rBe.getLsbD i then s.rData[i] else b else b

end Sys2Proof.Machine
end

