-- ==== Sys2Proof/Safety.lean ====
section
/-! DEFINITION. The terms in which claims speak of runs: the invariant of the state, what two states must share for a
command to behave alike, and the causes of errors. -/

namespace Sys2Proof.Machine

/-- STAGE_CNT holds 0 to 16 (R32). -/
abbrev StageCountLegal (s : State) : Prop := s.stageCnt.toNat ≤ 16

/-- ERR_CODE 3 and ERR_DETAIL 5 to 7 are never written, and ERR_DETAIL names a cause exactly when ERR_CODE is
INVALID_ARGUMENT (R28, R29). -/
abbrev ErrorFieldsLegal (s : State) : Prop :=
  s.errCode ≠ 3 ∧ s.errDetail.toNat ≤ 4 ∧ (s.errCode = 1 ↔ s.errDetail ≠ 0)

/-- While TX_STROBE is 1 there is no error and R_FRAME holds a valid frame (R27, R75). -/
abbrev StrobeHoldsValidFrame (s : State) : Prop :=
  s.txStrobe = true →
    s.errCode = 0 ∧ frameValid (unpackFrame s.cfg s.rFrame).id (unpackFrame s.cfg s.rFrame).len = true

/-- R_FRAME holds a wire image as the block writes them: length 0 to 8, zero padding, zero tail (R39, R40, R41). -/
abbrev FrameImageClean (s : State) : Prop :=
  s.rFrame[4].toNat ≤ 8 ∧ s.rFrame[5] = 0 ∧ s.rFrame[6] = 0 ∧ s.rFrame[7] = 0 ∧
    ∀ i : Fin 8, s.rFrame[4].toNat ≤ i.val → s.rFrame[8 + i.val] = 0

/-- Bits 31:29 of R_ID.value are 0 (R20). -/
abbrev IdValueMasked (s : State) : Prop := s.rId.value.toNat ≤ 0x1FFFFFFF

/-- R_BE enables the first n sink bytes for some n up to 8, and none unless RX_STATUS is OK (R25, R84). -/
abbrev ByteEnableLegal (s : State) : Prop :=
  (∃ n : Fin 9, s.rBe.toNat = 2 ^ n.val - 1) ∧ (s.rxStatus ≠ 1 → s.rBe = 0)

/-- The filter pair: every bit of F_ID is in F_MASK, and the ERR bit is in neither (R87). -/
abbrev FilterPairLegal (s : State) : Prop := s.fId &&& s.fMask = s.fId ∧ s.fMask &&& errBit s.cfg = 0

/-- The invariant that every step keeps, from any state that has it. -/
abbrev StateInv (s : State) : Prop :=
  StageCountLegal s ∧ ErrorFieldsLegal s ∧ StrobeHoldsValidFrame s ∧ FrameImageClean s ∧ IdValueMasked s ∧
    ByteEnableLegal s ∧ FilterPairLegal s

/-- The states agree but for the stale bytes of STAGE, those at and past STAGE_CNT (R31, R83). -/
abbrev SameButStale (s t : State) : Prop :=
  t = { s with stage := t.stage } ∧ ∀ i : Fin 16, i.val < s.stageCnt.toNat → s.stage[i] = t.stage[i]

/-- The states agree on all that a command's behaviour may depend on: STAGE, STAGE_CNT (R34) and the parameters. -/
abbrev SameInputs (s t : State) : Prop := s.stage = t.stage ∧ s.stageCnt = t.stageCnt ∧ s.cfg = t.cfg

/-- The first n bytes of two byte arrays agree. -/
abbrev SamePrefix {k : Nat} (n : Nat) (a b : Vector Byte k) : Prop := ∀ i : Fin k, i.val < n → a[i] = b[i]

/-- Two port settings agree on one port. -/
def sameOnPort (p q : Ports) (n : PortName) : Bool :=
  match n with
  | .value => p.value == q.value
  | .eff => p.eff == q.eff
  | .rtr => p.rtr == q.rtr
  | .err => p.err == q.err
  | .raw => p.raw == q.raw
  | .plen => p.plen == q.plen
  | .payload => p.payload == q.payload
  | .frame => p.frame == q.frame
  | .chunk => p.chunk == q.chunk
  | .clen => p.clen == q.clen
  | .cap => p.cap == q.cap

/-- The cause table of R95: the ERR_CODE and ERR_DETAIL with which an instruction ends from a state, (0, 0) where it
raises nothing. -/
def errorOf (i : Instr) (s : State) : BitVec 2 × BitVec 3 :=
  match i with
  | .nop => (0, 0)
  | .idEncode _ => (0, 0)
  | .idDecode _ => (0, 0)
  | .idCheck _ => (0, 0)
  | .framePack _ plen _ => if 8 < plen.toNat then (1, 2) else (0, 0)
  | .frameUnpack _ => (0, 0)
  | .frameCheck _ => (0, 0)
  | .txPrep id plen _ => if idValid id = false then (1, 1) else if 8 < plen.toNat then (1, 2) else (0, 0)
  | .rxPush _ clen => if 16 < s.stageCnt.toNat + clen.toNat then (1, 4) else (0, 0)
  | .rxAccept cap => if cap.toNat < 8 then (1, 3) else (0, 0)
  | .filterGen id => if idValid id = false then (1, 1) else (0, 0)
  | .reservedB => (2, 0)
  | .reservedC => (2, 0)
  | .reservedD => (2, 0)
  | .reservedE => (2, 0)
  | .reservedF => (2, 0)

/-- The bytes that the chunks of a list of socket reads deliver, in order. -/
def delivered (reads : List (Image × BitVec 5)) : List Byte := reads.flatMap fun r => r.1.toList.take r.2.toNat

end Sys2Proof.Machine
end

