-- ==== Sys2Proof/Certificates/Slice0/Obligations.lean ====
section
/-! DEFINITION. The statements for the provers, from the numbered rules of spec/. An obligation's docstring names the
rules it formalises; where a part is an inference the spec marks as its own, or a choice of the model, it says so. -/

open Sys2Proof Sys2Proof.Machine

/-! ### Encoding and dispatch -/

/-- R49, R50, R52, R58: the opcode map, each command taking up the ports it reads, and the reserved opcodes. -/
def Obligations.OpcodeMapSelectsCommands : Prop := ∀ p : Ports,
  decode ⟨0x0, p⟩ = .nop ∧
  decode ⟨0x1, p⟩ = .idEncode ⟨p.value, p.eff, p.rtr, p.err⟩ ∧
  decode ⟨0x2, p⟩ = .idDecode p.raw ∧
  decode ⟨0x3, p⟩ = .idCheck ⟨p.value, p.eff, p.rtr, p.err⟩ ∧
  decode ⟨0x4, p⟩ = .framePack ⟨p.value, p.eff, p.rtr, p.err⟩ p.plen p.payload ∧
  decode ⟨0x5, p⟩ = .frameUnpack p.frame ∧
  decode ⟨0x6, p⟩ = .frameCheck p.frame ∧
  decode ⟨0x7, p⟩ = .txPrep ⟨p.value, p.eff, p.rtr, p.err⟩ p.plen p.payload ∧
  decode ⟨0x8, p⟩ = .rxPush p.chunk p.clen ∧
  decode ⟨0x9, p⟩ = .rxAccept p.cap ∧
  decode ⟨0xA, p⟩ = .filterGen ⟨p.value, p.eff, p.rtr, p.err⟩ ∧
  decode ⟨0xB, p⟩ = .reservedB ∧
  decode ⟨0xC, p⟩ = .reservedC ∧
  decode ⟨0xD, p⟩ = .reservedD ∧
  decode ⟨0xE, p⟩ = .reservedE ∧
  decode ⟨0xF, p⟩ = .reservedF

/-- Decode and encode agree for every instruction and every operand value, and no other opcode gives the same
instruction. The encoder puts the unread ports at zero (DESIGN CHOICE, notes/assumptions/10.md). -/
def Obligations.DecodeOfEncodeIsIdentity : Prop :=
  (∀ i : Instr, decode (encode i) = i) ∧ ∀ c : Command, (encode (decode c)).op = c.op

/-- R50: the ports a command does not list have no effect: two commands with one opcode whose listed ports agree give
the same step. -/
def Obligations.UnlistedPortsHaveNoEffect : Prop := ∀ (op : BitVec 4) (p q : Ports) (s : State) (rest : List HostAction),
  (∀ n ∈ portsRead op, sameOnPort p q n = true) →
    step { s with pending := .command ⟨op, p⟩ :: rest } = step { s with pending := .command ⟨op, q⟩ :: rest }

/-- From R51: payload bytes at and past `in.plen` and chunk bytes at and past `in.clen` are not read. -/
def Obligations.BytesPastTheCountAreNotRead : Prop := ∀ s : State,
  (∀ (id : CanId) (n : Word) (p q : Slot), SamePrefix n.toNat p q →
    exec (.framePack id n p) s = exec (.framePack id n q) s ∧ exec (.txPrep id n p) s = exec (.txPrep id n q) s) ∧
  ∀ (n : BitVec 5) (a b : Image), SamePrefix n.toNat a b → exec (.rxPush a n) s = exec (.rxPush b n) s

/-! ### The step -/

/-- From R48 and R58: a step with a command at the port is exec of the decoded command, the command then past. The
pending list is the model's own (DESIGN CHOICE, notes/assumptions/1.md). -/
def Obligations.StepRunsTheDecodedCommand : Prop := ∀ (s : State) (c : Command) (rest : List HostAction),
  s.pending = .command c :: rest → step s = exec (decode c) { s with pending := rest }

/-- A word that decodes is run by the very next step after withFetchWord, and nothing else is changed. The word form
is the model's own (DESIGN CHOICE, notes/assumptions/11.md). -/
def Obligations.FetchedWordRunsNext : Prop := ∀ (s : State) (nbits w : Nat) (i : Instr),
  decodeTableWord nbits w = some i → step (s.withFetchWord nbits w) = exec i s

/-- R91: when the host issues no command, no register changes. -/
def Obligations.IdlePortChangesNothing : Prop := ∀ s : State, s.pending = [] → step s = .next s

/-- From R96 and R53: every step completes, whatever the state and the host's action. -/
def Obligations.EveryStepCompletes : Prop := ∀ s : State, ∃ t, step s = .next t

/-- R108: the reset value of every register and the derived signals, at State.reset and after a reset of the block in
any state, which leaves the parameters as configured. -/
def Obligations.ResetGivesEveryRegisterItsValue : Prop :=
  (∀ r : State, (r = State.reset ∨ ∃ s : State, r = resetBlock s) →
    r.rRaw = 0x00000000 ∧ r.rId = ⟨0x00000000, false, false, false⟩ ∧ r.rValid = false ∧
    (∀ i : Fin 16, r.rFrame[i] = 0x00) ∧ r.rLen = 0x00 ∧ (∀ i : Fin 8, r.rData[i] = 0x00) ∧ r.rBe = 0x00 ∧
    r.fId = 0x00000000 ∧ r.fMask = 0x00000000 ∧ r.txStrobe = false ∧ r.errCode = 0 ∧ r.errDetail = 0 ∧
    r.rxStatus = 0 ∧ (∀ i : Fin 16, r.stage[i] = 0x00) ∧ r.stageCnt = 0 ∧ rxFull r = false ∧ rxSuccess r = false) ∧
  ∀ s : State, (resetBlock s).cfg = s.cfg

/-- From R109: the host may reset the block in any state, and the block then accepts the next command at once. That
the reset is a step of its own is the model's (DESIGN CHOICE, notes/assumptions/1.md). -/
def Obligations.HostResetIsAStep : Prop := ∀ (s : State) (rest : List HostAction), s.pending = .reset :: rest →
  step s = .next { State.reset with cfg := s.cfg, pending := rest }

/-- From R6, R38: no step changes a parameter; the byte order cannot be switched at run time. -/
def Obligations.NoStepChangesAParameter : Prop := ∀ s t : State, step s = .next t → t.cfg = s.cfg

/-- From R45: commands take effect in the order the host issues them. Issuing one list and then another is issuing the
second in the state the first leaves, so each command sees every write of every earlier one and none of a later one. -/
def Obligations.CommandsTakeEffectInIssueOrder : Prop := ∀ (is js : List Instr) (s : State), ∃ t,
  Host.Core.run Sys2Proof.core is.length { s with pending := issue is } = .next t ∧
  Host.Core.run Sys2Proof.core (is.length + js.length) { s with pending := issue (is ++ js) } =
    Host.Core.run Sys2Proof.core js.length { t with pending := issue js }

/-- R33: the derived output signals. -/
def Obligations.DerivedSignalsReadTheRegisters : Prop := ∀ s : State,
  (rxFull s = true ↔ s.stageCnt.toNat = 16) ∧ (rxSuccess s = true ↔ s.rxStatus = 1)

/-! ### The CanId flag packer -/

/-- R59: encodeId bit by bit. The low 29 bits are the value's, each flag stands at its position, the positions are a
permutation of 31, 30, 29, so value bits 31:29 reach no bit of the word. -/
def Obligations.EncodeIdPlacesEveryBit : Prop := ∀ (cfg : Config) (id : CanId),
  (∀ j < 29, (encodeId cfg id).getLsbD j = id.value.getLsbD j) ∧
  (encodeId cfg id).getLsbD (effPos cfg.flags) = id.eff ∧
  (encodeId cfg id).getLsbD (rtrPos cfg.flags) = id.rtr ∧
  (encodeId cfg id).getLsbD (errPos cfg.flags) = id.err ∧
  [effPos cfg.flags, rtrPos cfg.flags, errPos cfg.flags].Perm [31, 30, 29]

/-- R60: decodeId bit by bit, for every word. -/
def Obligations.DecodeIdReadsEveryBit : Prop := ∀ (cfg : Config) (raw : Word),
  (∀ j < 29, (decodeId cfg raw).value.getLsbD j = raw.getLsbD j) ∧
  (∀ j < 32, 29 ≤ j → (decodeId cfg raw).value.getLsbD j = false) ∧
  (decodeId cfg raw).eff = raw.getLsbD (effPos cfg.flags) ∧
  (decodeId cfg raw).rtr = raw.getLsbD (rtrPos cfg.flags) ∧
  (decodeId cfg raw).err = raw.getLsbD (errPos cfg.flags)

/-- R61: an id is valid exactly when its error flag is clear and its value, unsigned over all 32 bits, fits the
addressing mode; RTR has no effect. -/
def Obligations.IdValidityIsTheRangeOfTheMode : Prop := ∀ (value : Word) (eff rtr err : Bool),
  (idValid ⟨value, eff, rtr, err⟩ = true ↔
    err = false ∧ (eff = true → value.toNat ≤ 0x1FFFFFFF) ∧ (eff = false → value.toNat ≤ 0x7FF)) ∧
  idValid ⟨value, eff, rtr, err⟩ = idValid ⟨value, eff, !rtr, err⟩

/-- R62: ID_ENCODE writes R_RAW and the prologue fields, and completes in every state. -/
def Obligations.IdEncodeWritesTheRawWord : Prop := ∀ (id : CanId) (s : State),
  exec (.idEncode id) s =
    .next { s with rRaw := encodeId s.cfg id, txStrobe := false, errCode := 0, errDetail := 0 }

/-- R63: ID_DECODE writes R_ID and the prologue fields, and completes in every state. -/
def Obligations.IdDecodeWritesTheIdentifier : Prop := ∀ (raw : Word) (s : State),
  exec (.idDecode raw) s =
    .next { s with rId := decodeId s.cfg raw, txStrobe := false, errCode := 0, errDetail := 0 }

/-- R64: ID_CHECK writes R_VALID and the prologue fields, and completes in every state. -/
def Obligations.IdCheckWritesTheValidityBit : Prop := ∀ (id : CanId) (s : State),
  exec (.idCheck id) s = .next { s with rValid := idValid id, txStrobe := false, errCode := 0, errDetail := 0 }

/-- The round-trip laws that the spec derives in R65 (its own inference). -/
def Obligations.RawWordAndIdentifierRoundTrip : Prop := ∀ cfg : Config,
  (∀ w : Word, encodeId cfg (decodeId cfg w) = w) ∧
  (∀ id : CanId, id.value.toNat ≤ 0x1FFFFFFF →
    decodeId cfg (encodeId cfg id) = id ∧ idValid (decodeId cfg (encodeId cfg id)) = idValid id) ∧
  ∀ id : CanId, 0x1FFFFFFF < id.value.toNat →
    idValid id = false ∧ (decodeId cfg (encodeId cfg id)).value.toNat = id.value.toNat % 2 ^ 29

/-- What the spec derives in R66 (its own inference): a standard value above 0x7FF is truncated nowhere, and sending it
or filtering for it fails with ID_INVALID. -/
def Obligations.StandardValuesAreNotTruncated : Prop := ∀ (id : CanId) (n : Word) (p : Slot) (s : State),
  id.eff = false → 0x7FF < id.value.toNat → id.value.toNat ≤ 0x1FFFFFFF →
    (decodeId s.cfg (encodeId s.cfg id)).value = id.value ∧
    (n.toNat ≤ 8 → (unpackFrame s.cfg (packFrame s.cfg id n p)).id.value = id.value) ∧
    (decodeId s.cfg (filterId s.cfg id)).value = id.value ∧
    exec (.txPrep id n p) s = .next { s with txStrobe := false, errCode := 1, errDetail := 1 } ∧
    exec (.filterGen id) s = .next { s with txStrobe := false, errCode := 1, errDetail := 1 }

/-! ### The CanFrame serializer -/

/-- From R36 and R38: the four identifier bytes of an image hold the raw word in the order HOST_LE gives, and reading
either way gives back what was written. -/
def Obligations.IdentifierBytesFollowHostOrder : Prop := ∀ cfg : Config,
  (∀ w : Word, word32 cfg (bytes32 cfg w) = w) ∧ (∀ b : Vector Byte 4, bytes32 cfg (word32 cfg b) = b) ∧
  ∀ (w : Word) (i : Fin 4) (j : Nat), j < 8 →
    (cfg.hostLE = true → (bytes32 cfg w)[i].getLsbD j = w.getLsbD (8 * i.val + j)) ∧
    (cfg.hostLE = false → (bytes32 cfg w)[i].getLsbD j = w.getLsbD (8 * (3 - i.val) + j))

/-- R67: packFrame byte by byte. -/
def Obligations.PackFrameWritesEveryByte : Prop := ∀ (cfg : Config) (id : CanId) (n : Word) (p : Slot), n.toNat ≤ 8 →
  (∀ i : Fin 4, (packFrame cfg id n p)[i.val] = (bytes32 cfg (encodeId cfg id))[i]) ∧
  (packFrame cfg id n p)[4].toNat = n.toNat ∧
  (packFrame cfg id n p)[5] = 0x00 ∧ (packFrame cfg id n p)[6] = 0x00 ∧ (packFrame cfg id n p)[7] = 0x00 ∧
  ∀ i : Fin 8, (packFrame cfg id n p)[8 + i.val] = if i.val < n.toNat then p[i] else 0x00

/-- R68: unpackFrame; bytes 5 to 7 are not read and the length byte is not clamped. -/
def Obligations.UnpackFrameReadsTheImage : Prop := ∀ (cfg : Config) (w : Image),
  (unpackFrame cfg w).id = decodeId cfg (word32 cfg #v[w[0], w[1], w[2], w[3]]) ∧
  (unpackFrame cfg w).len = w[4] ∧
  (∀ i : Fin 8, (unpackFrame cfg w).data[i] = w[8 + i.val]) ∧
  ∀ v : Image, (∀ i : Fin 16, ¬(5 ≤ i.val ∧ i.val ≤ 7) → v[i] = w[i]) → unpackFrame cfg v = unpackFrame cfg w

/-- R69: a frame is valid exactly when its id is valid and its length at most 8. -/
def Obligations.FrameValidityIsIdAndLength : Prop := ∀ (id : CanId) (len : BitVec 8),
  frameValid id len = true ↔ idValid id = true ∧ len.toNat ≤ 8

/-- R70: FRAME_PACK packs any id with up to 8 payload bytes, and raises PAYLOAD_LEN for more, R_FRAME then kept. -/
def Obligations.FramePackWritesTheImage : Prop := ∀ (id : CanId) (n : Word) (p : Slot) (s : State),
  (n.toNat ≤ 8 → exec (.framePack id n p) s =
    .next { s with rFrame := packFrame s.cfg id n p, txStrobe := false, errCode := 0, errDetail := 0 }) ∧
  (8 < n.toNat → exec (.framePack id n p) s = .next { s with txStrobe := false, errCode := 1, errDetail := 2 })

/-- R71: FRAME_UNPACK writes R_ID, R_LEN and R_DATA, and completes for every image. -/
def Obligations.FrameUnpackWritesTheFields : Prop := ∀ (w : Image) (s : State),
  exec (.frameUnpack w) s =
    .next { s with
      rId := (unpackFrame s.cfg w).id
      rLen := (unpackFrame s.cfg w).len
      rData := (unpackFrame s.cfg w).data
      txStrobe := false
      errCode := 0
      errDetail := 0 }

/-- R72: FRAME_CHECK writes R_VALID, and completes for every image. -/
def Obligations.FrameCheckWritesTheValidityBit : Prop := ∀ (w : Image) (s : State),
  exec (.frameCheck w) s =
    .next { s with
      rValid := frameValid (unpackFrame s.cfg w).id (unpackFrame s.cfg w).len
      txStrobe := false
      errCode := 0
      errDetail := 0 }

/-- From R74: RTR puts no constraint on the length and changes no byte of the image past the identifier. -/
def Obligations.RtrDoesNotTouchLengthOrPayload : Prop :=
  ∀ (cfg : Config) (id : CanId) (n : Word) (p : Slot) (len : BitVec 8) (b : Bool),
    frameValid { id with rtr := b } len = frameValid id len ∧
    (n.toNat ≤ 8 → ∀ k : Fin 16, 4 ≤ k.val → (packFrame cfg { id with rtr := b } n p)[k] = (packFrame cfg id n p)[k])

/-- The round trip that the spec derives in R73 (its own inference), on the machine: FRAME_PACK and then FRAME_UNPACK
of the image in R_FRAME gives back the id, the length and the payload, zeros behind it, and the same frame in the sense
of R73; for every id whose value fits 29 bits, valid or not. -/
def Obligations.PackThenUnpackGivesTheFrameBack : Prop := ∀ (id : CanId) (n : Word) (p : Slot) (s : State),
  id.value.toNat ≤ 0x1FFFFFFF → n.toNat ≤ 8 →
    ∃ t u, exec (.framePack id n p) s = .next t ∧ exec (.frameUnpack t.rFrame) t = .next u ∧
      u.rId = id ∧ u.rLen.toNat = n.toNat ∧
      (∀ i : Fin 8, u.rData[i] = if i.val < n.toNat then p[i] else 0x00) ∧
      sameFrame ⟨u.rId, u.rLen, u.rData⟩ ⟨id, n.setWidth 8, p⟩ = true

/-- What the spec derives at the end of R73 (its own inference): packing what was unpacked gives the image back exactly
when its padding and its tail are zero, for an image whose length is at most 8. -/
def Obligations.RepackedImageIsTheSameWhenClean : Prop := ∀ (cfg : Config) (w : Image), w[4].toNat ≤ 8 →
  (packFrame cfg (unpackFrame cfg w).id ((unpackFrame cfg w).len.setWidth 32) (unpackFrame cfg w).data = w ↔
    w[5] = 0x00 ∧ w[6] = 0x00 ∧ w[7] = 0x00 ∧ ∀ i : Fin 8, w[4].toNat ≤ i.val → w[8 + i.val] = 0x00)

/-! ### Send preparation and receive staging -/

/-- R75, R76: TX_PREP checks the id first and the length second; passing both it writes R_FRAME and TX_STROBE, else it
raises and R_FRAME is kept. -/
def Obligations.TxPrepChecksThenPreparesTheImage : Prop := ∀ (id : CanId) (n : Word) (p : Slot) (s : State),
  (idValid id = true → n.toNat ≤ 8 → exec (.txPrep id n p) s =
    .next { s with rFrame := packFrame s.cfg id n p, txStrobe := true, errCode := 0, errDetail := 0 }) ∧
  (idValid id = false → exec (.txPrep id n p) s = .next { s with txStrobe := false, errCode := 1, errDetail := 1 }) ∧
  (idValid id = true → 8 < n.toNat →
    exec (.txPrep id n p) s = .next { s with txStrobe := false, errCode := 1, errDetail := 2 })

/-- R78: RX_PUSH appends the chunk's first clen bytes at STAGE_CNT and counts them, every other byte of STAGE kept; a
chunk that would pass 16 raises CHUNK_LEN and changes neither STAGE nor STAGE_CNT. -/
def Obligations.RxPushAppendsTheChunk : Prop := ∀ (b : Image) (n : BitVec 5) (s : State),
  ((n.toNat : Int) ≤ 16 - (s.stageCnt.toNat : Int) →
    ∃ t, exec (.rxPush b n) s = .next t ∧
      t = { s with
        stage := t.stage
        stageCnt := t.stageCnt
        txStrobe := false
        errCode := 0
        errDetail := 0 } ∧
      t.stageCnt.toNat = s.stageCnt.toNat + n.toNat ∧
      ∀ k : Fin 16, t.stage[k] =
        if s.stageCnt.toNat ≤ k.val ∧ k.val < s.stageCnt.toNat + n.toNat
        then b[k.val - s.stageCnt.toNat] else s.stage[k]) ∧
  ((n.toNat : Int) > 16 - (s.stageCnt.toNat : Int) →
    exec (.rxPush b n) s = .next { s with txStrobe := false, errCode := 1, errDetail := 4 })

/-- From R79: a sink below 8 bytes raises SINK_CAP whatever is staged, and no other register changes, the stage kept. -/
def Obligations.RxAcceptRejectsASmallSink : Prop := ∀ (cap : Word) (s : State), cap.toNat < 8 →
  exec (.rxAccept cap) s = .next { s with txStrobe := false, errCode := 1, errDetail := 3 }

/-- R80 (and the release of R83): with a whole valid frame staged, RX_ACCEPT gives OK, the id, the length, the data
slot and the byte enables `(1 << len) - 1`. -/
def Obligations.RxAcceptDeliversAValidFrame : Prop := ∀ (cap : Word) (s : State),
  8 ≤ cap.toNat → s.stageCnt = 16 → frameValid (unpackFrame s.cfg s.stage).id (unpackFrame s.cfg s.stage).len = true →
    exec (.rxAccept cap) s =
      .next { s with
        rId := (unpackFrame s.cfg s.stage).id
        rLen := (unpackFrame s.cfg s.stage).len
        rData := (unpackFrame s.cfg s.stage).data
        rBe := BitVec.ofNat 8 (2 ^ (unpackFrame s.cfg s.stage).len.toNat - 1)
        rxStatus := 1
        stageCnt := 0
        txStrobe := false
        errCode := 0
        errDetail := 0 }

/-- R82 (and the release of R83): with a whole but invalid frame staged, RX_ACCEPT gives INVALID, the decoded id, and
length and byte enables 0; R_DATA is kept. -/
def Obligations.RxAcceptDiscardsAnInvalidFrame : Prop := ∀ (cap : Word) (s : State),
  8 ≤ cap.toNat → s.stageCnt = 16 → frameValid (unpackFrame s.cfg s.stage).id (unpackFrame s.cfg s.stage).len = false →
    exec (.rxAccept cap) s =
      .next { s with
        rId := (unpackFrame s.cfg s.stage).id
        rLen := 0
        rBe := 0x00
        rxStatus := 3
        stageCnt := 0
        txStrobe := false
        errCode := 0
        errDetail := 0 }

/-- From R81 without the id: with fewer than 16 bytes staged RX_ACCEPT gives NO_DATA, whatever id it reports. -/
def Obligations.RxAcceptReportsNoData : Prop := ∀ (cap : Word) (s : State), 8 ≤ cap.toNat → s.stageCnt.toNat < 16 →
  ∃ t, exec (.rxAccept cap) s = .next t ∧
    t = { s with
      rId := t.rId
      rLen := 0
      rBe := 0x00
      rxStatus := 2
      stageCnt := 0
      txStrobe := false
      errCode := 0
      errDetail := 0 }

/-- R81 on the id: the first four staged bytes decoded when at least four are staged, else the default Id. The spec's
own choice among what its source allows (D16, notes/assumptions/5.md); no other statement rests on it. -/
def Obligations.NoDataReportsThePartialIdentifier : Prop := ∀ (cap : Word) (s : State),
  8 ≤ cap.toNat → s.stageCnt.toNat < 16 →
    ∃ t, exec (.rxAccept cap) s = .next t ∧
      (4 ≤ s.stageCnt.toNat →
        t.rId = decodeId s.cfg (word32 s.cfg #v[s.stage[0], s.stage[1], s.stage[2], s.stage[3]])) ∧
      (s.stageCnt.toNat < 4 → t.rId = ⟨0, false, false, false⟩)

/-- From R83 and R44 (the spec's own inference): an RX_ACCEPT that does not raise empties the stage, so the next one
finds nothing staged and gives NO_DATA. -/
def Obligations.AcceptReleasesTheStage : Prop := ∀ (cap cap' : Word) (s t : State),
  8 ≤ cap.toNat → 8 ≤ cap'.toNat → exec (.rxAccept cap) s = .next t →
    t.stageCnt = 0 ∧ t.stage = s.stage ∧ ∃ u, exec (.rxAccept cap') t = .next u ∧ u.rxStatus = 2

/-- What the spec derives in R84 (its own inference): after an OK the sink copy writes exactly the first R_LEN bytes,
from the slot, and after NO_DATA or INVALID nothing; for every sink of at least 8 bytes. -/
def Obligations.SinkReceivesExactlyTheDeclaredBytes : Prop := ∀ (cap : Word) (s t : State) (sink : List Byte),
  8 ≤ cap.toNat → 8 ≤ sink.length → exec (.rxAccept cap) s = .next t →
    (t.rxStatus = 1 → t.rLen.toNat ≤ 8 ∧
      sinkCopy t sink = t.rData.toList.take t.rLen.toNat ++ sink.drop t.rLen.toNat) ∧
    (t.rxStatus ≠ 1 → sinkCopy t sink = sink)

/-- From R77 and R76: after SEND the host has an image to write exactly when both checks passed, and it is the packed
frame. -/
def Obligations.SendWritesOnlyCheckedFrames : Prop := ∀ (id : CanId) (n : Word) (p : Slot) (s : State),
  ∃ t, Host.Core.run Sys2Proof.core 1 { s with pending := issue (expand (.send id n p)) } = .next t ∧
    socketImage t = if idValid id = true ∧ n.toNat ≤ 8 then some (packFrame s.cfg id n p) else none

/-- The source's property E4 over R67, R78 to R83: however a packed valid frame is cut into socket reads, TRY_RECEIVE
from an empty stage reports OK and delivers exactly its id, length and payload. -/
def Obligations.AnyPartialReadsReconstructTheFrame : Prop :=
  ∀ (id : CanId) (n : Word) (p : Slot) (cap : Word) (reads : List (Image × BitVec 5)) (s : State),
    idValid id = true → n.toNat ≤ 8 → 8 ≤ cap.toNat → s.stageCnt = 0 → (∀ r ∈ reads, r.2.toNat ≤ 16) →
    delivered reads = (packFrame s.cfg id n p).toList →
      ∃ t, Host.Core.run Sys2Proof.core (reads.length + 1)
          { s with pending := issue (expand (.tryReceive reads cap)) } = .next t ∧
        t.rxStatus = 1 ∧ t.errCode = 0 ∧ t.rId = id ∧ t.rLen.toNat = n.toNat ∧ t.stageCnt = 0 ∧
        ∀ i : Fin 8, i.val < n.toNat → t.rData[i] = p[i]

/-! ### The filter mask generator -/

/-- R85: filterPair. The mask is the value with the EFF and RTR bits set, bit by bit, and nothing else. -/
def Obligations.FilterPairFollowsTheFormula : Prop := ∀ (cfg : Config) (id : CanId),
  filterId cfg id = encodeId cfg id ∧
  ∀ j < 32, (filterMask cfg id).getLsbD j =
    (id.value.getLsbD j || decide (j = effPos cfg.flags) || decide (j = rtrPos cfg.flags))

/-- R86: FILTER_GEN writes the pair of a valid id, and raises ID_INVALID for an invalid one, the pair then kept. -/
def Obligations.FilterGenWritesThePair : Prop := ∀ (id : CanId) (s : State),
  (idValid id = true → exec (.filterGen id) s =
    .next { s with
      fId := encodeId s.cfg id
      fMask := id.value ||| (1#32 <<< effPos s.cfg.flags) ||| (1#32 <<< rtrPos s.cfg.flags)
      txStrobe := false
      errCode := 0
      errDetail := 0 }) ∧
  (idValid id = false → exec (.filterGen id) s = .next { s with txStrobe := false, errCode := 1, errDetail := 1 })

/-- What the spec derives in R87 (its own inference), for every flag layout: the mask holds the value, EFF and RTR and
not ERR, and every bit of F_ID is in it. -/
def Obligations.FilterMaskCoversTheFilterId : Prop := ∀ (cfg : Config) (id : CanId), idValid id = true →
  (filterMask cfg id).getLsbD (effPos cfg.flags) = true ∧ (filterMask cfg id).getLsbD (rtrPos cfg.flags) = true ∧
  (filterMask cfg id).getLsbD (errPos cfg.flags) = false ∧ (filterId cfg id).getLsbD (errPos cfg.flags) = false ∧
  (∀ j < 29, (filterMask cfg id).getLsbD j = id.value.getLsbD j) ∧
  filterId cfg id &&& filterMask cfg id = filterId cfg id

/-! ### NOP and the reserved opcodes -/

/-- R90: NOP writes only the prologue fields. -/
def Obligations.NopClearsTheStatusFields : Prop := ∀ s : State,
  exec .nop s = .next { s with txStrobe := false, errCode := 0, errDetail := 0 }

/-- R94: each reserved opcode raises IllegalOp and writes nothing else. -/
def Obligations.ReservedOpcodesRaiseIllegalOp : Prop := ∀ (i : Instr) (s : State),
  i ∈ [Instr.reservedB, .reservedC, .reservedD, .reservedE, .reservedF] →
    exec i s = .next { s with txStrobe := false, errCode := 2, errDetail := 0 }

/-! ### The whole machine -/

/-- The cause table that the spec derives in R95 (its own inference): every instruction ends with exactly the ERR_CODE
and ERR_DETAIL of the table. -/
def Obligations.ErrorsFollowTheCauseTable : Prop := ∀ (i : Instr) (s : State),
  ∃ t, exec i s = .next t ∧ (t.errCode, t.errDetail) = errorOf i s

/-- What the spec derives in R99 (its own inference): errors are precise, over all instructions. -/
def Obligations.ErrorsArePrecise : Prop := ∀ (i : Instr) (s t : State), exec i s = .next t → t.errCode ≠ 0 →
  t = { s with txStrobe := false, errCode := t.errCode, errDetail := t.errDetail }

/-- R27: TX_STROBE is 1 exactly after a TX_PREP that succeeded, over all instructions, and 0 at reset. -/
def Obligations.StrobeMeansTheLastCommandPreparedASend : Prop :=
  State.reset.txStrobe = false ∧ ∀ (i : Instr) (s t : State), exec i s = .next t →
    (t.txStrobe = true ↔ ∃ id n p, i = .txPrep id n p ∧ t.errCode = 0)

/-- From R18, the column "written by": a register that differs after an instruction is written by one of the listed
commands, over all instructions and all registers. -/
def Obligations.OnlyListedCommandsWriteARegister : Prop := ∀ (i : Instr) (s t : State), exec i s = .next t →
  (t.rRaw ≠ s.rRaw → opcode i = 0x1) ∧
  (t.rId ≠ s.rId → opcode i ∈ [0x2#4, 0x5#4, 0x9#4]) ∧
  (t.rValid ≠ s.rValid → opcode i ∈ [0x3#4, 0x6#4]) ∧
  (t.rFrame ≠ s.rFrame → opcode i ∈ [0x4#4, 0x7#4]) ∧
  (t.rLen ≠ s.rLen → opcode i ∈ [0x5#4, 0x9#4]) ∧
  (t.rData ≠ s.rData → opcode i ∈ [0x5#4, 0x9#4]) ∧
  (t.rBe ≠ s.rBe → opcode i = 0x9) ∧
  (t.fId ≠ s.fId → opcode i = 0xA) ∧
  (t.fMask ≠ s.fMask → opcode i = 0xA) ∧
  (t.rxStatus ≠ s.rxStatus → opcode i = 0x9) ∧
  (t.stage ≠ s.stage → opcode i = 0x8) ∧
  (t.stageCnt ≠ s.stageCnt → opcode i ∈ [0x8#4, 0x9#4])

/-- What the spec derives in R44 (its own inference): every command but RX_PUSH and RX_ACCEPT is idempotent, whether or
not it raises. -/
def Obligations.OtherCommandsAreIdempotent : Prop := ∀ (i : Instr) (s t : State),
  opcode i ≠ 0x8 → opcode i ≠ 0x9 → exec i s = .next t → exec i t = .next t

/-- What the spec derives in R34 (its own inference): a command's behaviour depends only on its ports, STAGE and
STAGE_CNT (and the parameters). From two states that agree on these, each register ends either with one value in both
or as it was in both. -/
def Obligations.BehaviourDependsOnPortsAndStageOnly : Prop := ∀ (i : Instr) (s s' t t' : State),
  SameInputs s s' → exec i s = .next t → exec i s' = .next t' →
    SameInputs t t' ∧ t.txStrobe = t'.txStrobe ∧ t.errCode = t'.errCode ∧ t.errDetail = t'.errDetail ∧
    (t.rRaw = t'.rRaw ∨ t.rRaw = s.rRaw ∧ t'.rRaw = s'.rRaw) ∧
    (t.rId = t'.rId ∨ t.rId = s.rId ∧ t'.rId = s'.rId) ∧
    (t.rValid = t'.rValid ∨ t.rValid = s.rValid ∧ t'.rValid = s'.rValid) ∧
    (t.rFrame = t'.rFrame ∨ t.rFrame = s.rFrame ∧ t'.rFrame = s'.rFrame) ∧
    (t.rLen = t'.rLen ∨ t.rLen = s.rLen ∧ t'.rLen = s'.rLen) ∧
    (t.rData = t'.rData ∨ t.rData = s.rData ∧ t'.rData = s'.rData) ∧
    (t.rBe = t'.rBe ∨ t.rBe = s.rBe ∧ t'.rBe = s'.rBe) ∧
    (t.fId = t'.fId ∨ t.fId = s.fId ∧ t'.fId = s'.fId) ∧
    (t.fMask = t'.fMask ∨ t.fMask = s.fMask ∧ t'.fMask = s'.fMask) ∧
    (t.rxStatus = t'.rxStatus ∨ t.rxStatus = s.rxStatus ∧ t'.rxStatus = s'.rxStatus)

/-- From R31 and R83: stale bytes of STAGE are never read. Two states that differ only in them take steps to states
that differ only in them. -/
def Obligations.StaleStageBytesAreNeverRead : Prop := ∀ s s' : State, SameButStale s s' →
  ∃ t t', step s = .next t ∧ step s' = .next t' ∧ SameButStale t t'

/-- From R20, R25, R27 to R32, R39 to R41, R84, R87: the state after reset has the invariant. -/
def Obligations.InvariantHoldsAtReset : Prop := StateInv State.reset

/-- From R20, R25, R27 to R32, R39 to R41, R84, R87: every step keeps the invariant, from every state that has it: the
staged count stays at most 16, the error fields stay legal, a strobed frame is a valid one, R_FRAME stays a clean image,
R_ID.value keeps bits 31:29 clear, R_BE enables a prefix and only after OK, and F_MASK covers F_ID. -/
def Obligations.EveryStepKeepsTheInvariant : Prop := ∀ s t : State, StateInv s → step s = .next t → StateInv t
end

