-- ==== Sys2Proof/Laws/Arrays.lean ====
section
/-! SUPPORT. The laws of the byte-array primitives (R10) and of the identifier's byte order (R38). -/

namespace Sys2Proof.Machine

theorem memRead_getElem {k : Nat} (a : Vector Byte k) (off n : Nat) (h : off + n ≤ k) (i : Nat) (hi : i < n) :
    (memRead a off n h)[i] = a[off + i] := by
  simp [memRead]

/-- A written byte is read back from the chunk. -/
theorem memWrite_getElem_inside {k : Nat} (a bs : Vector Byte k) (off n i : Nat) (hi : i < k)
    (h : off ≤ i ∧ i < off + n) : (memWrite a off n bs)[i] = bs[i - off] := by
  simp [memWrite, h]

/-- A byte outside the written range is kept. -/
theorem memWrite_getElem_outside {k : Nat} (a bs : Vector Byte k) (off n i : Nat) (hi : i < k)
    (h : ¬(off ≤ i ∧ i < off + n)) : (memWrite a off n bs)[i] = a[i] := by
  simp [memWrite, h]

/-- Bit j of byte i of a word, by HOST_LE (R38). -/
theorem bytes32_getLsbD_le (cfg : Config) (w : Word) (h : cfg.hostLE = true) (i j : Nat) (hi : i < 4) (hj : j < 8) :
    (bytes32 cfg w)[i].getLsbD j = w.getLsbD (8 * i + j) := by
  have : i = 0 ∨ i = 1 ∨ i = 2 ∨ i = 3 := by omega
  rcases this with rfl | rfl | rfl | rfl <;> simp [bytes32, h, hj]

theorem bytes32_getLsbD_be (cfg : Config) (w : Word) (h : cfg.hostLE = false) (i j : Nat) (hi : i < 4) (hj : j < 8) :
    (bytes32 cfg w)[i].getLsbD j = w.getLsbD (8 * (3 - i) + j) := by
  have : i = 0 ∨ i = 1 ∨ i = 2 ∨ i = 3 := by omega
  rcases this with rfl | rfl | rfl | rfl <;> simp [bytes32, h, hj]

theorem le32_getLsbD (b0 b1 b2 b3 : Byte) (j : Nat) (hj : j < 8) :
    (le32 b0 b1 b2 b3).getLsbD j = b0.getLsbD j ∧ (le32 b0 b1 b2 b3).getLsbD (8 + j) = b1.getLsbD j ∧
      (le32 b0 b1 b2 b3).getLsbD (16 + j) = b2.getLsbD j ∧ (le32 b0 b1 b2 b3).getLsbD (24 + j) = b3.getLsbD j := by
  have high (b : Byte) (i : Nat) (hi : 8 ≤ i) : b.getLsbD i = false := BitVec.getLsbD_of_ge b i hi
  refine ⟨?_, ?_, ?_, ?_⟩ <;>
    simp only [le32, BitVec.getLsbD_or, BitVec.getLsbD_shiftLeft, BitVec.getLsbD_setWidth]
  · simp [hj, show j < 16 by omega, show j < 24 by omega, show j < 32 by omega]
  · simp [show 8 + j < 16 by omega, show 8 + j < 24 by omega, show 8 + j < 32 by omega,
      show j < 32 by omega]
  · simp [high b0 (16 + j) (by omega), high b1 (16 + j - 8) (by omega), show 16 + j < 24 by omega,
      show 16 + j < 32 by omega, show j < 32 by omega]
  · simp [high b0 (24 + j) (by omega), high b1 (24 + j - 8) (by omega), high b2 (24 + j - 16) (by omega),
      show 24 + j < 32 by omega, show j < 32 by omega]

theorem be32_eq_le32 (b0 b1 b2 b3 : Byte) : be32 b0 b1 b2 b3 = le32 b3 b2 b1 b0 := by
  unfold be32 le32
  generalize (b0.setWidth 32 <<< 24 : Word) = a, (b1.setWidth 32 <<< 16 : Word) = b, (b2.setWidth 32 <<< 8 : Word) = c,
    (b3.setWidth 32 : Word) = d
  rw [BitVec.or_comm, BitVec.or_comm (a ||| b), BitVec.or_comm a, ← BitVec.or_assoc, ← BitVec.or_assoc]

/-- A 32-bit word is known by its bits, eight at a time. -/
theorem word_ext {v w : Word} (h : ∀ j < 8, v.getLsbD j = w.getLsbD j ∧ v.getLsbD (8 + j) = w.getLsbD (8 + j) ∧
    v.getLsbD (16 + j) = w.getLsbD (16 + j) ∧ v.getLsbD (24 + j) = w.getLsbD (24 + j)) : v = w := by
  apply BitVec.eq_of_getLsbD_eq
  intro i hi
  have hb := h (i % 8) (by omega)
  have : i = i % 8 ∨ i = 8 + i % 8 ∨ i = 16 + i % 8 ∨ i = 24 + i % 8 := by omega
  rcases this with e | e | e | e <;> rw [e] <;> simp only [hb]

/-- Reading back the bytes of a word gives the word, in either byte order. -/
theorem word32_bytes32 (cfg : Config) (w : Word) : word32 cfg (bytes32 cfg w) = w := by
  apply word_ext
  intro j hj
  cases h : cfg.hostLE
  · have b := fun i hi => bytes32_getLsbD_be cfg w h i j hi hj
    simp [word32, h, be32_eq_le32, le32_getLsbD _ _ _ _ j hj, b 0, b 1, b 2, b 3]
  · have b := fun i hi => bytes32_getLsbD_le cfg w h i j hi hj
    simp [word32, h, le32_getLsbD _ _ _ _ j hj, b 0, b 1, b 2, b 3]

/-- The four regions of a packed image (R67). -/
theorem packFrame_idByte (cfg : Config) (id : CanId) (n : Word) (p : Slot) (i : Nat) (hi : i < 4) :
    (packFrame cfg id n p)[i] = (bytes32 cfg (encodeId cfg id))[i] := by
  simp [packFrame, imageByte, hi]

theorem packFrame_lenByte (cfg : Config) (id : CanId) (n : Word) (p : Slot) :
    (packFrame cfg id n p)[4] = n.setWidth 8 := by
  simp [packFrame, imageByte]

theorem packFrame_padding (cfg : Config) (id : CanId) (n : Word) (p : Slot) :
    (packFrame cfg id n p)[5] = 0 ∧ (packFrame cfg id n p)[6] = 0 ∧ (packFrame cfg id n p)[7] = 0 := by
  simp [packFrame, imageByte]

theorem packFrame_slotByte (cfg : Config) (id : CanId) (n : Word) (p : Slot) (i : Nat) (hi : i < 8) :
    (packFrame cfg id n p)[8 + i] = slotByte n p ⟨i, hi⟩ := by
  simp [packFrame, imageByte, show ¬8 + i < 4 by omega, show ¬8 + i = 4 by omega]

end Sys2Proof.Machine
end

