-- ==== Sys2Proof/Laws/Identifier.lean ====
section
/-! SUPPORT. The laws of the raw word: what each bit of encodeId is (R59), what validity says in numbers (R61). -/

namespace Sys2Proof.Machine

/-- The flag positions are 29, 30 and 31 and differ (R6). -/
theorem flagPositions (l : FlagLayout) :
    (29 ≤ effPos l ∧ effPos l < 32) ∧ (29 ≤ rtrPos l ∧ rtrPos l < 32) ∧ (29 ≤ errPos l ∧ errPos l < 32) ∧
      effPos l ≠ rtrPos l ∧ effPos l ≠ errPos l ∧ rtrPos l ≠ errPos l := by
  cases l <;> decide

theorem flagAt_getLsbD (b : Bool) (p j : Nat) (hj : j < 32) : (flagAt b p).getLsbD j = (decide (j = p) && b) := by
  simp only [flagAt, BitVec.getLsbD_shiftLeft, BitVec.getLsbD_setWidth, BitVec.getLsbD_ofBool]
  by_cases h : j < p
  · simp [h, show j ≠ p by omega]
  · by_cases e : j = p
    · subst e; simp [hj]
    · simp [e, show j - p ≠ 0 by omega]

theorem valueMask_getLsbD (j : Nat) : valueMask.getLsbD j = decide (j < 29) := by
  by_cases h : j < 32
  · have : ∀ j : Fin 32, valueMask.getLsbD j.val = decide (j.val < 29) := by decide
    exact this ⟨j, h⟩
  · rw [BitVec.getLsbD_of_ge _ _ (by omega)]
    simp; omega

theorem encodeId_getLsbD (cfg : Config) (id : CanId) (j : Nat) (hj : j < 32) :
    (encodeId cfg id).getLsbD j =
      ((id.value.getLsbD j && decide (j < 29)) || (decide (j = effPos cfg.flags) && id.eff)
        || (decide (j = rtrPos cfg.flags) && id.rtr) || (decide (j = errPos cfg.flags) && id.err)) := by
  simp only [encodeId, BitVec.getLsbD_or, BitVec.getLsbD_and, flagAt_getLsbD _ _ _ hj, valueMask_getLsbD]

theorem bitAt_getLsbD (p j : Nat) (hj : j < 32) : (1#32 <<< p).getLsbD j = decide (j = p) := by
  have h := flagAt_getLsbD true p j hj
  simpa [flagAt] using h

theorem filterMask_getLsbD (cfg : Config) (id : CanId) (j : Nat) (hj : j < 32) :
    (filterMask cfg id).getLsbD j =
      (id.value.getLsbD j || decide (j = effPos cfg.flags) || decide (j = rtrPos cfg.flags)) := by
  have e := bitAt_getLsbD (effPos cfg.flags) j hj
  have r := bitAt_getLsbD (rtrPos cfg.flags) j hj
  simp only [filterMask, effBit, rtrBit, BitVec.getLsbD_or]
  exact congr_arg₂ _ (congr_arg₂ _ rfl e) r

theorem idValid_eq (id : CanId) :
    idValid id = (!id.err && decide (id.value.toNat ≤ if id.eff then 0x1FFFFFFF else 0x7FF)) := by
  cases h : id.eff <;> simp [idValid, h, BitVec.ule, effMax, sffMax]

/-- A valid id has no error flag and a value within 29 bits. -/
theorem idValid_bounds {id : CanId} (h : idValid id = true) : id.err = false ∧ id.value.toNat ≤ 0x1FFFFFFF := by
  rw [idValid_eq] at h
  cases e : id.eff <;> simp [e] at h <;> exact ⟨h.1, by omega⟩

/-- The bits past 28 of a value within 29 bits are clear. -/
theorem value_high_bits {v : Word} (h : v.toNat ≤ 0x1FFFFFFF) (j : Nat) (hj : 29 ≤ j) : v.getLsbD j = false := by
  rw [BitVec.getLsbD, Nat.testBit_eq_false_of_lt]
  exact lt_of_lt_of_le (by omega : v.toNat < 2 ^ 29) (Nat.pow_le_pow_right (by decide) hj)

/-- Masking a value within 29 bits changes nothing. -/
theorem value_masked {v : Word} (h : v.toNat ≤ 0x1FFFFFFF) : v &&& valueMask = v := by
  apply BitVec.eq_of_getLsbD_eq
  intro j _
  rw [BitVec.getLsbD_and, valueMask_getLsbD]
  by_cases hj : j < 29
  · simp [hj]
  · simp [value_high_bits h j (by omega)]

theorem masked_toNat (v : Word) : (v &&& valueMask).toNat = v.toNat % 2 ^ 29 := by
  rw [BitVec.toNat_and]
  exact Nat.and_two_pow_sub_one_eq_mod v.toNat 29

theorem masked_le (v : Word) : (v &&& valueMask).toNat ≤ 0x1FFFFFFF := by
  rw [masked_toNat]; omega

end Sys2Proof.Machine
end

