-- ==== Sys2Proof/Laws/State.lean ====
section
/-! SUPPORT. One lemma per field per named update of the state, each true by unfolding, for simp: no later proof
unfolds a record update. -/

namespace Sys2Proof.Machine

variable (s : State)

@[simp] theorem prologue_rRaw : (prologue s).rRaw = s.rRaw := rfl
@[simp] theorem prologue_rId : (prologue s).rId = s.rId := rfl
@[simp] theorem prologue_rValid : (prologue s).rValid = s.rValid := rfl
@[simp] theorem prologue_rFrame : (prologue s).rFrame = s.rFrame := rfl
@[simp] theorem prologue_rLen : (prologue s).rLen = s.rLen := rfl
@[simp] theorem prologue_rData : (prologue s).rData = s.rData := rfl
@[simp] theorem prologue_rBe : (prologue s).rBe = s.rBe := rfl
@[simp] theorem prologue_fId : (prologue s).fId = s.fId := rfl
@[simp] theorem prologue_fMask : (prologue s).fMask = s.fMask := rfl
@[simp] theorem prologue_txStrobe : (prologue s).txStrobe = false := rfl
@[simp] theorem prologue_errCode : (prologue s).errCode = 0 := rfl
@[simp] theorem prologue_errDetail : (prologue s).errDetail = 0 := rfl
@[simp] theorem prologue_rxStatus : (prologue s).rxStatus = s.rxStatus := rfl
@[simp] theorem prologue_stage : (prologue s).stage = s.stage := rfl
@[simp] theorem prologue_stageCnt : (prologue s).stageCnt = s.stageCnt := rfl
@[simp] theorem prologue_cfg : (prologue s).cfg = s.cfg := rfl
@[simp] theorem prologue_pending : (prologue s).pending = s.pending := rfl

@[simp] theorem setRaw_rRaw (w : Word) : (setRaw w s).rRaw = w := rfl
@[simp] theorem setRaw_rId (w : Word) : (setRaw w s).rId = s.rId := rfl
@[simp] theorem setRaw_rValid (w : Word) : (setRaw w s).rValid = s.rValid := rfl
@[simp] theorem setRaw_rFrame (w : Word) : (setRaw w s).rFrame = s.rFrame := rfl
@[simp] theorem setRaw_rLen (w : Word) : (setRaw w s).rLen = s.rLen := rfl
@[simp] theorem setRaw_rData (w : Word) : (setRaw w s).rData = s.rData := rfl
@[simp] theorem setRaw_rBe (w : Word) : (setRaw w s).rBe = s.rBe := rfl
@[simp] theorem setRaw_fId (w : Word) : (setRaw w s).fId = s.fId := rfl
@[simp] theorem setRaw_fMask (w : Word) : (setRaw w s).fMask = s.fMask := rfl
@[simp] theorem setRaw_txStrobe (w : Word) : (setRaw w s).txStrobe = s.txStrobe := rfl
@[simp] theorem setRaw_errCode (w : Word) : (setRaw w s).errCode = s.errCode := rfl
@[simp] theorem setRaw_errDetail (w : Word) : (setRaw w s).errDetail = s.errDetail := rfl
@[simp] theorem setRaw_rxStatus (w : Word) : (setRaw w s).rxStatus = s.rxStatus := rfl
@[simp] theorem setRaw_stage (w : Word) : (setRaw w s).stage = s.stage := rfl
@[simp] theorem setRaw_stageCnt (w : Word) : (setRaw w s).stageCnt = s.stageCnt := rfl
@[simp] theorem setRaw_cfg (w : Word) : (setRaw w s).cfg = s.cfg := rfl
@[simp] theorem setRaw_pending (w : Word) : (setRaw w s).pending = s.pending := rfl

@[simp] theorem setId_rRaw (id : CanId) : (setId id s).rRaw = s.rRaw := rfl
@[simp] theorem setId_rId (id : CanId) : (setId id s).rId = id := rfl
@[simp] theorem setId_rValid (id : CanId) : (setId id s).rValid = s.rValid := rfl
@[simp] theorem setId_rFrame (id : CanId) : (setId id s).rFrame = s.rFrame := rfl
@[simp] theorem setId_rLen (id : CanId) : (setId id s).rLen = s.rLen := rfl
@[simp] theorem setId_rData (id : CanId) : (setId id s).rData = s.rData := rfl
@[simp] theorem setId_rBe (id : CanId) : (setId id s).rBe = s.rBe := rfl
@[simp] theorem setId_fId (id : CanId) : (setId id s).fId = s.fId := rfl
@[simp] theorem setId_fMask (id : CanId) : (setId id s).fMask = s.fMask := rfl
@[simp] theorem setId_txStrobe (id : CanId) : (setId id s).txStrobe = s.txStrobe := rfl
@[simp] theorem setId_errCode (id : CanId) : (setId id s).errCode = s.errCode := rfl
@[simp] theorem setId_errDetail (id : CanId) : (setId id s).errDetail = s.errDetail := rfl
@[simp] theorem setId_rxStatus (id : CanId) : (setId id s).rxStatus = s.rxStatus := rfl
@[simp] theorem setId_stage (id : CanId) : (setId id s).stage = s.stage := rfl
@[simp] theorem setId_stageCnt (id : CanId) : (setId id s).stageCnt = s.stageCnt := rfl
@[simp] theorem setId_cfg (id : CanId) : (setId id s).cfg = s.cfg := rfl
@[simp] theorem setId_pending (id : CanId) : (setId id s).pending = s.pending := rfl

@[simp] theorem setValid_rRaw (v : Bool) : (setValid v s).rRaw = s.rRaw := rfl
@[simp] theorem setValid_rId (v : Bool) : (setValid v s).rId = s.rId := rfl
@[simp] theorem setValid_rValid (v : Bool) : (setValid v s).rValid = v := rfl
@[simp] theorem setValid_rFrame (v : Bool) : (setValid v s).rFrame = s.rFrame := rfl
@[simp] theorem setValid_rLen (v : Bool) : (setValid v s).rLen = s.rLen := rfl
@[simp] theorem setValid_rData (v : Bool) : (setValid v s).rData = s.rData := rfl
@[simp] theorem setValid_rBe (v : Bool) : (setValid v s).rBe = s.rBe := rfl
@[simp] theorem setValid_fId (v : Bool) : (setValid v s).fId = s.fId := rfl
@[simp] theorem setValid_fMask (v : Bool) : (setValid v s).fMask = s.fMask := rfl
@[simp] theorem setValid_txStrobe (v : Bool) : (setValid v s).txStrobe = s.txStrobe := rfl
@[simp] theorem setValid_errCode (v : Bool) : (setValid v s).errCode = s.errCode := rfl
@[simp] theorem setValid_errDetail (v : Bool) : (setValid v s).errDetail = s.errDetail := rfl
@[simp] theorem setValid_rxStatus (v : Bool) : (setValid v s).rxStatus = s.rxStatus := rfl
@[simp] theorem setValid_stage (v : Bool) : (setValid v s).stage = s.stage := rfl
@[simp] theorem setValid_stageCnt (v : Bool) : (setValid v s).stageCnt = s.stageCnt := rfl
@[simp] theorem setValid_cfg (v : Bool) : (setValid v s).cfg = s.cfg := rfl
@[simp] theorem setValid_pending (v : Bool) : (setValid v s).pending = s.pending := rfl

@[simp] theorem setFrame_rRaw (w : Image) : (setFrame w s).rRaw = s.rRaw := rfl
@[simp] theorem setFrame_rId (w : Image) : (setFrame w s).rId = s.rId := rfl
@[simp] theorem setFrame_rValid (w : Image) : (setFrame w s).rValid = s.rValid := rfl
@[simp] theorem setFrame_rFrame (w : Image) : (setFrame w s).rFrame = w := rfl
@[simp] theorem setFrame_rLen (w : Image) : (setFrame w s).rLen = s.rLen := rfl
@[simp] theorem setFrame_rData (w : Image) : (setFrame w s).rData = s.rData := rfl
@[simp] theorem setFrame_rBe (w : Image) : (setFrame w s).rBe = s.rBe := rfl
@[simp] theorem setFrame_fId (w : Image) : (setFrame w s).fId = s.fId := rfl
@[simp] theorem setFrame_fMask (w : Image) : (setFrame w s).fMask = s.fMask := rfl
@[simp] theorem setFrame_txStrobe (w : Image) : (setFrame w s).txStrobe = s.txStrobe := rfl
@[simp] theorem setFrame_errCode (w : Image) : (setFrame w s).errCode = s.errCode := rfl
@[simp] theorem setFrame_errDetail (w : Image) : (setFrame w s).errDetail = s.errDetail := rfl
@[simp] theorem setFrame_rxStatus (w : Image) : (setFrame w s).rxStatus = s.rxStatus := rfl
@[simp] theorem setFrame_stage (w : Image) : (setFrame w s).stage = s.stage := rfl
@[simp] theorem setFrame_stageCnt (w : Image) : (setFrame w s).stageCnt = s.stageCnt := rfl
@[simp] theorem setFrame_cfg (w : Image) : (setFrame w s).cfg = s.cfg := rfl
@[simp] theorem setFrame_pending (w : Image) : (setFrame w s).pending = s.pending := rfl

@[simp] theorem setError_rRaw (c : BitVec 2) (d : BitVec 3) : (setError c d s).rRaw = s.rRaw := rfl
@[simp] theorem setError_rId (c : BitVec 2) (d : BitVec 3) : (setError c d s).rId = s.rId := rfl
@[simp] theorem setError_rValid (c : BitVec 2) (d : BitVec 3) : (setError c d s).rValid = s.rValid := rfl
@[simp] theorem setError_rFrame (c : BitVec 2) (d : BitVec 3) : (setError c d s).rFrame = s.rFrame := rfl
@[simp] theorem setError_rLen (c : BitVec 2) (d : BitVec 3) : (setError c d s).rLen = s.rLen := rfl
@[simp] theorem setError_rData (c : BitVec 2) (d : BitVec 3) : (setError c d s).rData = s.rData := rfl
@[simp] theorem setError_rBe (c : BitVec 2) (d : BitVec 3) : (setError c d s).rBe = s.rBe := rfl
@[simp] theorem setError_fId (c : BitVec 2) (d : BitVec 3) : (setError c d s).fId = s.fId := rfl
@[simp] theorem setError_fMask (c : BitVec 2) (d : BitVec 3) : (setError c d s).fMask = s.fMask := rfl
@[simp] theorem setError_txStrobe (c : BitVec 2) (d : BitVec 3) : (setError c d s).txStrobe = s.txStrobe := rfl
@[simp] theorem setError_errCode (c : BitVec 2) (d : BitVec 3) : (setError c d s).errCode = c := rfl
@[simp] theorem setError_errDetail (c : BitVec 2) (d : BitVec 3) : (setError c d s).errDetail = d := rfl
@[simp] theorem setError_rxStatus (c : BitVec 2) (d : BitVec 3) : (setError c d s).rxStatus = s.rxStatus := rfl
@[simp] theorem setError_stage (c : BitVec 2) (d : BitVec 3) : (setError c d s).stage = s.stage := rfl
@[simp] theorem setError_stageCnt (c : BitVec 2) (d : BitVec 3) : (setError c d s).stageCnt = s.stageCnt := rfl
@[simp] theorem setError_cfg (c : BitVec 2) (d : BitVec 3) : (setError c d s).cfg = s.cfg := rfl
@[simp] theorem setError_pending (c : BitVec 2) (d : BitVec 3) : (setError c d s).pending = s.pending := rfl

@[simp] theorem resetBlock_rRaw : (resetBlock s).rRaw = State.reset.rRaw := rfl
@[simp] theorem resetBlock_rId : (resetBlock s).rId = State.reset.rId := rfl
@[simp] theorem resetBlock_rValid : (resetBlock s).rValid = State.reset.rValid := rfl
@[simp] theorem resetBlock_rFrame : (resetBlock s).rFrame = State.reset.rFrame := rfl
@[simp] theorem resetBlock_rLen : (resetBlock s).rLen = State.reset.rLen := rfl
@[simp] theorem resetBlock_rData : (resetBlock s).rData = State.reset.rData := rfl
@[simp] theorem resetBlock_rBe : (resetBlock s).rBe = State.reset.rBe := rfl
@[simp] theorem resetBlock_fId : (resetBlock s).fId = State.reset.fId := rfl
@[simp] theorem resetBlock_fMask : (resetBlock s).fMask = State.reset.fMask := rfl
@[simp] theorem resetBlock_txStrobe : (resetBlock s).txStrobe = State.reset.txStrobe := rfl
@[simp] theorem resetBlock_errCode : (resetBlock s).errCode = State.reset.errCode := rfl
@[simp] theorem resetBlock_errDetail : (resetBlock s).errDetail = State.reset.errDetail := rfl
@[simp] theorem resetBlock_rxStatus : (resetBlock s).rxStatus = State.reset.rxStatus := rfl
@[simp] theorem resetBlock_stage : (resetBlock s).stage = State.reset.stage := rfl
@[simp] theorem resetBlock_stageCnt : (resetBlock s).stageCnt = State.reset.stageCnt := rfl
@[simp] theorem resetBlock_cfg : (resetBlock s).cfg = s.cfg := rfl
@[simp] theorem resetBlock_pending : (resetBlock s).pending = s.pending := rfl

@[simp] theorem unpackInto_rRaw (w : Image) : (unpackInto w s).rRaw = s.rRaw := rfl
@[simp] theorem unpackInto_rId (w : Image) : (unpackInto w s).rId = (unpackFrame s.cfg w).id := rfl
@[simp] theorem unpackInto_rValid (w : Image) : (unpackInto w s).rValid = s.rValid := rfl
@[simp] theorem unpackInto_rFrame (w : Image) : (unpackInto w s).rFrame = s.rFrame := rfl
@[simp] theorem unpackInto_rLen (w : Image) : (unpackInto w s).rLen = (unpackFrame s.cfg w).len := rfl
@[simp] theorem unpackInto_rData (w : Image) : (unpackInto w s).rData = (unpackFrame s.cfg w).data := rfl
@[simp] theorem unpackInto_rBe (w : Image) : (unpackInto w s).rBe = s.rBe := rfl
@[simp] theorem unpackInto_fId (w : Image) : (unpackInto w s).fId = s.fId := rfl
@[simp] theorem unpackInto_fMask (w : Image) : (unpackInto w s).fMask = s.fMask := rfl
@[simp] theorem unpackInto_txStrobe (w : Image) : (unpackInto w s).txStrobe = s.txStrobe := rfl
@[simp] theorem unpackInto_errCode (w : Image) : (unpackInto w s).errCode = s.errCode := rfl
@[simp] theorem unpackInto_errDetail (w : Image) : (unpackInto w s).errDetail = s.errDetail := rfl
@[simp] theorem unpackInto_rxStatus (w : Image) : (unpackInto w s).rxStatus = s.rxStatus := rfl
@[simp] theorem unpackInto_stage (w : Image) : (unpackInto w s).stage = s.stage := rfl
@[simp] theorem unpackInto_stageCnt (w : Image) : (unpackInto w s).stageCnt = s.stageCnt := rfl
@[simp] theorem unpackInto_cfg (w : Image) : (unpackInto w s).cfg = s.cfg := rfl
@[simp] theorem unpackInto_pending (w : Image) : (unpackInto w s).pending = s.pending := rfl

@[simp] theorem prepareSend_rRaw (id : CanId) (n : Word) (p : Slot) : (prepareSend id n p s).rRaw = s.rRaw := rfl
@[simp] theorem prepareSend_rId (id : CanId) (n : Word) (p : Slot) : (prepareSend id n p s).rId = s.rId := rfl
@[simp] theorem prepareSend_rValid (id : CanId) (n : Word) (p : Slot) : (prepareSend id n p s).rValid = s.rValid := rfl
@[simp] theorem prepareSend_rFrame (id : CanId) (n : Word) (p : Slot) : (prepareSend id n p s).rFrame = packFrame s.cfg id n p := rfl
@[simp] theorem prepareSend_rLen (id : CanId) (n : Word) (p : Slot) : (prepareSend id n p s).rLen = s.rLen := rfl
@[simp] theorem prepareSend_rData (id : CanId) (n : Word) (p : Slot) : (prepareSend id n p s).rData = s.rData := rfl
@[simp] theorem prepareSend_rBe (id : CanId) (n : Word) (p : Slot) : (prepareSend id n p s).rBe = s.rBe := rfl
@[simp] theorem prepareSend_fId (id : CanId) (n : Word) (p : Slot) : (prepareSend id n p s).fId = s.fId := rfl
@[simp] theorem prepareSend_fMask (id : CanId) (n : Word) (p : Slot) : (prepareSend id n p s).fMask = s.fMask := rfl
@[simp] theorem prepareSend_txStrobe (id : CanId) (n : Word) (p : Slot) : (prepareSend id n p s).txStrobe = true := rfl
@[simp] theorem prepareSend_errCode (id : CanId) (n : Word) (p : Slot) : (prepareSend id n p s).errCode = s.errCode := rfl
@[simp] theorem prepareSend_errDetail (id : CanId) (n : Word) (p : Slot) : (prepareSend id n p s).errDetail = s.errDetail := rfl
@[simp] theorem prepareSend_rxStatus (id : CanId) (n : Word) (p : Slot) : (prepareSend id n p s).rxStatus = s.rxStatus := rfl
@[simp] theorem prepareSend_stage (id : CanId) (n : Word) (p : Slot) : (prepareSend id n p s).stage = s.stage := rfl
@[simp] theorem prepareSend_stageCnt (id : CanId) (n : Word) (p : Slot) : (prepareSend id n p s).stageCnt = s.stageCnt := rfl
@[simp] theorem prepareSend_cfg (id : CanId) (n : Word) (p : Slot) : (prepareSend id n p s).cfg = s.cfg := rfl
@[simp] theorem prepareSend_pending (id : CanId) (n : Word) (p : Slot) : (prepareSend id n p s).pending = s.pending := rfl

@[simp] theorem stageChunk_rRaw (b : Image) (n : BitVec 5) : (stageChunk b n s).rRaw = s.rRaw := rfl
@[simp] theorem stageChunk_rId (b : Image) (n : BitVec 5) : (stageChunk b n s).rId = s.rId := rfl
@[simp] theorem stageChunk_rValid (b : Image) (n : BitVec 5) : (stageChunk b n s).rValid = s.rValid := rfl
@[simp] theorem stageChunk_rFrame (b : Image) (n : BitVec 5) : (stageChunk b n s).rFrame = s.rFrame := rfl
@[simp] theorem stageChunk_rLen (b : Image) (n : BitVec 5) : (stageChunk b n s).rLen = s.rLen := rfl
@[simp] theorem stageChunk_rData (b : Image) (n : BitVec 5) : (stageChunk b n s).rData = s.rData := rfl
@[simp] theorem stageChunk_rBe (b : Image) (n : BitVec 5) : (stageChunk b n s).rBe = s.rBe := rfl
@[simp] theorem stageChunk_fId (b : Image) (n : BitVec 5) : (stageChunk b n s).fId = s.fId := rfl
@[simp] theorem stageChunk_fMask (b : Image) (n : BitVec 5) : (stageChunk b n s).fMask = s.fMask := rfl
@[simp] theorem stageChunk_txStrobe (b : Image) (n : BitVec 5) : (stageChunk b n s).txStrobe = s.txStrobe := rfl
@[simp] theorem stageChunk_errCode (b : Image) (n : BitVec 5) : (stageChunk b n s).errCode = s.errCode := rfl
@[simp] theorem stageChunk_errDetail (b : Image) (n : BitVec 5) : (stageChunk b n s).errDetail = s.errDetail := rfl
@[simp] theorem stageChunk_rxStatus (b : Image) (n : BitVec 5) : (stageChunk b n s).rxStatus = s.rxStatus := rfl
@[simp] theorem stageChunk_stage (b : Image) (n : BitVec 5) : (stageChunk b n s).stage = memWrite s.stage s.stageCnt.toNat n.toNat b := rfl
@[simp] theorem stageChunk_stageCnt (b : Image) (n : BitVec 5) : (stageChunk b n s).stageCnt = s.stageCnt + n := rfl
@[simp] theorem stageChunk_cfg (b : Image) (n : BitVec 5) : (stageChunk b n s).cfg = s.cfg := rfl
@[simp] theorem stageChunk_pending (b : Image) (n : BitVec 5) : (stageChunk b n s).pending = s.pending := rfl

@[simp] theorem acceptNoData_rRaw : (acceptNoData s).rRaw = s.rRaw := rfl
@[simp] theorem acceptNoData_rId : (acceptNoData s).rId = partialId s := rfl
@[simp] theorem acceptNoData_rValid : (acceptNoData s).rValid = s.rValid := rfl
@[simp] theorem acceptNoData_rFrame : (acceptNoData s).rFrame = s.rFrame := rfl
@[simp] theorem acceptNoData_rLen : (acceptNoData s).rLen = 0 := rfl
@[simp] theorem acceptNoData_rData : (acceptNoData s).rData = s.rData := rfl
@[simp] theorem acceptNoData_rBe : (acceptNoData s).rBe = 0 := rfl
@[simp] theorem acceptNoData_fId : (acceptNoData s).fId = s.fId := rfl
@[simp] theorem acceptNoData_fMask : (acceptNoData s).fMask = s.fMask := rfl
@[simp] theorem acceptNoData_txStrobe : (acceptNoData s).txStrobe = s.txStrobe := rfl
@[simp] theorem acceptNoData_errCode : (acceptNoData s).errCode = s.errCode := rfl
@[simp] theorem acceptNoData_errDetail : (acceptNoData s).errDetail = s.errDetail := rfl
@[simp] theorem acceptNoData_rxStatus : (acceptNoData s).rxStatus = 2 := rfl
@[simp] theorem acceptNoData_stage : (acceptNoData s).stage = s.stage := rfl
@[simp] theorem acceptNoData_stageCnt : (acceptNoData s).stageCnt = s.stageCnt := rfl
@[simp] theorem acceptNoData_cfg : (acceptNoData s).cfg = s.cfg := rfl
@[simp] theorem acceptNoData_pending : (acceptNoData s).pending = s.pending := rfl

@[simp] theorem acceptInvalid_rRaw (id : CanId) : (acceptInvalid id s).rRaw = s.rRaw := rfl
@[simp] theorem acceptInvalid_rId (id : CanId) : (acceptInvalid id s).rId = id := rfl
@[simp] theorem acceptInvalid_rValid (id : CanId) : (acceptInvalid id s).rValid = s.rValid := rfl
@[simp] theorem acceptInvalid_rFrame (id : CanId) : (acceptInvalid id s).rFrame = s.rFrame := rfl
@[simp] theorem acceptInvalid_rLen (id : CanId) : (acceptInvalid id s).rLen = 0 := rfl
@[simp] theorem acceptInvalid_rData (id : CanId) : (acceptInvalid id s).rData = s.rData := rfl
@[simp] theorem acceptInvalid_rBe (id : CanId) : (acceptInvalid id s).rBe = 0 := rfl
@[simp] theorem acceptInvalid_fId (id : CanId) : (acceptInvalid id s).fId = s.fId := rfl
@[simp] theorem acceptInvalid_fMask (id : CanId) : (acceptInvalid id s).fMask = s.fMask := rfl
@[simp] theorem acceptInvalid_txStrobe (id : CanId) : (acceptInvalid id s).txStrobe = s.txStrobe := rfl
@[simp] theorem acceptInvalid_errCode (id : CanId) : (acceptInvalid id s).errCode = s.errCode := rfl
@[simp] theorem acceptInvalid_errDetail (id : CanId) : (acceptInvalid id s).errDetail = s.errDetail := rfl
@[simp] theorem acceptInvalid_rxStatus (id : CanId) : (acceptInvalid id s).rxStatus = 3 := rfl
@[simp] theorem acceptInvalid_stage (id : CanId) : (acceptInvalid id s).stage = s.stage := rfl
@[simp] theorem acceptInvalid_stageCnt (id : CanId) : (acceptInvalid id s).stageCnt = s.stageCnt := rfl
@[simp] theorem acceptInvalid_cfg (id : CanId) : (acceptInvalid id s).cfg = s.cfg := rfl
@[simp] theorem acceptInvalid_pending (id : CanId) : (acceptInvalid id s).pending = s.pending := rfl

@[simp] theorem acceptOk_rRaw (f : CanFrame) : (acceptOk f s).rRaw = s.rRaw := rfl
@[simp] theorem acceptOk_rId (f : CanFrame) : (acceptOk f s).rId = f.id := rfl
@[simp] theorem acceptOk_rValid (f : CanFrame) : (acceptOk f s).rValid = s.rValid := rfl
@[simp] theorem acceptOk_rFrame (f : CanFrame) : (acceptOk f s).rFrame = s.rFrame := rfl
@[simp] theorem acceptOk_rLen (f : CanFrame) : (acceptOk f s).rLen = f.len := rfl
@[simp] theorem acceptOk_rData (f : CanFrame) : (acceptOk f s).rData = f.data := rfl
@[simp] theorem acceptOk_rBe (f : CanFrame) : (acceptOk f s).rBe = byteEnable f.len := rfl
@[simp] theorem acceptOk_fId (f : CanFrame) : (acceptOk f s).fId = s.fId := rfl
@[simp] theorem acceptOk_fMask (f : CanFrame) : (acceptOk f s).fMask = s.fMask := rfl
@[simp] theorem acceptOk_txStrobe (f : CanFrame) : (acceptOk f s).txStrobe = s.txStrobe := rfl
@[simp] theorem acceptOk_errCode (f : CanFrame) : (acceptOk f s).errCode = s.errCode := rfl
@[simp] theorem acceptOk_errDetail (f : CanFrame) : (acceptOk f s).errDetail = s.errDetail := rfl
@[simp] theorem acceptOk_rxStatus (f : CanFrame) : (acceptOk f s).rxStatus = 1 := rfl
@[simp] theorem acceptOk_stage (f : CanFrame) : (acceptOk f s).stage = s.stage := rfl
@[simp] theorem acceptOk_stageCnt (f : CanFrame) : (acceptOk f s).stageCnt = s.stageCnt := rfl
@[simp] theorem acceptOk_cfg (f : CanFrame) : (acceptOk f s).cfg = s.cfg := rfl
@[simp] theorem acceptOk_pending (f : CanFrame) : (acceptOk f s).pending = s.pending := rfl

@[simp] theorem releaseStage_rRaw : (releaseStage s).rRaw = s.rRaw := rfl
@[simp] theorem releaseStage_rId : (releaseStage s).rId = s.rId := rfl
@[simp] theorem releaseStage_rValid : (releaseStage s).rValid = s.rValid := rfl
@[simp] theorem releaseStage_rFrame : (releaseStage s).rFrame = s.rFrame := rfl
@[simp] theorem releaseStage_rLen : (releaseStage s).rLen = s.rLen := rfl
@[simp] theorem releaseStage_rData : (releaseStage s).rData = s.rData := rfl
@[simp] theorem releaseStage_rBe : (releaseStage s).rBe = s.rBe := rfl
@[simp] theorem releaseStage_fId : (releaseStage s).fId = s.fId := rfl
@[simp] theorem releaseStage_fMask : (releaseStage s).fMask = s.fMask := rfl
@[simp] theorem releaseStage_txStrobe : (releaseStage s).txStrobe = s.txStrobe := rfl
@[simp] theorem releaseStage_errCode : (releaseStage s).errCode = s.errCode := rfl
@[simp] theorem releaseStage_errDetail : (releaseStage s).errDetail = s.errDetail := rfl
@[simp] theorem releaseStage_rxStatus : (releaseStage s).rxStatus = s.rxStatus := rfl
@[simp] theorem releaseStage_stage : (releaseStage s).stage = s.stage := rfl
@[simp] theorem releaseStage_stageCnt : (releaseStage s).stageCnt = 0 := rfl
@[simp] theorem releaseStage_cfg : (releaseStage s).cfg = s.cfg := rfl
@[simp] theorem releaseStage_pending : (releaseStage s).pending = s.pending := rfl

@[simp] theorem setFilter_rRaw (id : CanId) : (setFilter id s).rRaw = s.rRaw := rfl
@[simp] theorem setFilter_rId (id : CanId) : (setFilter id s).rId = s.rId := rfl
@[simp] theorem setFilter_rValid (id : CanId) : (setFilter id s).rValid = s.rValid := rfl
@[simp] theorem setFilter_rFrame (id : CanId) : (setFilter id s).rFrame = s.rFrame := rfl
@[simp] theorem setFilter_rLen (id : CanId) : (setFilter id s).rLen = s.rLen := rfl
@[simp] theorem setFilter_rData (id : CanId) : (setFilter id s).rData = s.rData := rfl
@[simp] theorem setFilter_rBe (id : CanId) : (setFilter id s).rBe = s.rBe := rfl
@[simp] theorem setFilter_fId (id : CanId) : (setFilter id s).fId = filterId s.cfg id := rfl
@[simp] theorem setFilter_fMask (id : CanId) : (setFilter id s).fMask = filterMask s.cfg id := rfl
@[simp] theorem setFilter_txStrobe (id : CanId) : (setFilter id s).txStrobe = s.txStrobe := rfl
@[simp] theorem setFilter_errCode (id : CanId) : (setFilter id s).errCode = s.errCode := rfl
@[simp] theorem setFilter_errDetail (id : CanId) : (setFilter id s).errDetail = s.errDetail := rfl
@[simp] theorem setFilter_rxStatus (id : CanId) : (setFilter id s).rxStatus = s.rxStatus := rfl
@[simp] theorem setFilter_stage (id : CanId) : (setFilter id s).stage = s.stage := rfl
@[simp] theorem setFilter_stageCnt (id : CanId) : (setFilter id s).stageCnt = s.stageCnt := rfl
@[simp] theorem setFilter_cfg (id : CanId) : (setFilter id s).cfg = s.cfg := rfl
@[simp] theorem setFilter_pending (id : CanId) : (setFilter id s).pending = s.pending := rfl

end Sys2Proof.Machine
end

