-- ==== Sys2Proof/Laws/Meanings.lean ====
section
/-! SUPPORT. What each meaning can do, said once: later proofs cite these and do not unfold a meaning. -/

namespace Sys2Proof.Machine

/-- The state in which an instruction ends. -/
def after (i : Instr) (s : State) : State :=
  match i with
  | .nop => prologue s
  | .idEncode id => setRaw (encodeId s.cfg id) (prologue s)
  | .idDecode raw => setId (decodeId s.cfg raw) (prologue s)
  | .idCheck id => setValid (idValid id) (prologue s)
  | .framePack id n p =>
    if payloadTooLong n then setError 1 2 (prologue s) else setFrame (packFrame s.cfg id n p) (prologue s)
  | .frameUnpack w => unpackInto w (prologue s)
  | .frameCheck w =>
    setValid (frameValid (unpackFrame s.cfg w).id (unpackFrame s.cfg w).len) (prologue s)
  | .txPrep id n p =>
    if !idValid id then setError 1 1 (prologue s)
    else if payloadTooLong n then setError 1 2 (prologue s)
    else prepareSend id n p (prologue s)
  | .rxPush b n =>
    if chunkTooLong s.stageCnt n then setError 1 4 (prologue s) else stageChunk b n (prologue s)
  | .rxAccept cap =>
    if sinkTooSmall cap then setError 1 3 (prologue s) else releaseStage (acceptStaged (prologue s))
  | .filterGen id => if !idValid id then setError 1 1 (prologue s) else setFilter id (prologue s)
  | .reservedB => setError 2 0 (prologue s)
  | .reservedC => setError 2 0 (prologue s)
  | .reservedD => setError 2 0 (prologue s)
  | .reservedE => setError 2 0 (prologue s)
  | .reservedF => setError 2 0 (prologue s)

/-- Every instruction completes, in the state `after` says. -/
theorem exec_eq (i : Instr) (s : State) : exec i s = .next (after i s) := by
  cases i with
  | framePack id n p => simp only [exec, execFramePack, after]; split <;> rfl
  | txPrep id n p => simp only [exec, execTxPrep, after]; split <;> [rfl; (split <;> rfl)]
  | rxPush b n => simp only [exec, execRxPush, after]; split <;> rfl
  | rxAccept cap => simp only [exec, execRxAccept, after]; split <;> rfl
  | filterGen id => simp only [exec, execFilterGen, after]; split <;> rfl
  | nop => rfl
  | idEncode id => rfl
  | idDecode raw => rfl
  | idCheck id => rfl
  | frameUnpack w => rfl
  | frameCheck w => rfl
  | reservedB => rfl
  | reservedC => rfl
  | reservedD => rfl
  | reservedE => rfl
  | reservedF => rfl

/-- The inversion of a run instruction. -/
theorem eq_after_of_exec {i : Instr} {s t : State} (h : exec i s = .next t) : t = after i s := by
  rw [exec_eq] at h
  exact (Host.Outcome.next.inj h).symm

/-- The three outcomes of an acceptance (R79). -/
theorem acceptStaged_cases (s : State) :
    (s.stageCnt.toNat < 16 ∧ acceptStaged s = acceptNoData s) ∨
    (16 ≤ s.stageCnt.toNat ∧ frameValid (unpackFrame s.cfg s.stage).id (unpackFrame s.cfg s.stage).len = false ∧
      acceptStaged s = acceptInvalid (unpackFrame s.cfg s.stage).id s) ∨
    (16 ≤ s.stageCnt.toNat ∧ frameValid (unpackFrame s.cfg s.stage).id (unpackFrame s.cfg s.stage).len = true ∧
      acceptStaged s = acceptOk (unpackFrame s.cfg s.stage) s) := by
  unfold acceptStaged
  by_cases h : s.stageCnt.toNat < 16
  · simp [h]
  · cases v : frameValid (unpackFrame s.cfg s.stage).id (unpackFrame s.cfg s.stage).len <;> simp [h] <;> omega

/-- The three things a step can do (R48, R91, R109). -/
theorem step_cases (s : State) :
    (s.pending = [] ∧ step s = .next s) ∨
    (∃ rest, s.pending = .reset :: rest ∧ step s = .next (resetBlock { s with pending := rest })) ∨
    (∃ c rest, s.pending = .command c :: rest ∧ step s = .next (after (decode c) { s with pending := rest })) := by
  unfold step
  cases h : s.pending with
  | nil => exact .inl ⟨rfl, rfl⟩
  | cons a rest =>
    cases a with
    | reset => exact .inr (.inl ⟨rest, rfl, rfl⟩)
    | command c => exact .inr (.inr ⟨c, rest, rfl, exec_eq _ _⟩)

end Sys2Proof.Machine
end

