-- ==== Sys2Proof/Laws/PerInstr.lean ====
section
/-! SUPPORT. Statements for all instructions, one lemma per constructor of Instr. -/

namespace Sys2Proof.Laws.DecodeEncode

/-- Decoding the command that stands for an instruction gives the instruction back, every operand kept. -/
def Statement (i : Instr) : Prop := decode (encode i) = i

theorem nop : Statement .nop := rfl
theorem idEncode (id : CanId) : Statement (.idEncode id) := rfl
theorem idDecode (raw : Word) : Statement (.idDecode raw) := rfl
theorem idCheck (id : CanId) : Statement (.idCheck id) := rfl
theorem framePack (id : CanId) (plen : Word) (payload : Slot) : Statement (.framePack id plen payload) := rfl
theorem frameUnpack (frame : Image) : Statement (.frameUnpack frame) := rfl
theorem frameCheck (frame : Image) : Statement (.frameCheck frame) := rfl
theorem txPrep (id : CanId) (plen : Word) (payload : Slot) : Statement (.txPrep id plen payload) := rfl
theorem rxPush (chunk : Image) (clen : BitVec 5) : Statement (.rxPush chunk clen) := rfl
theorem rxAccept (cap : Word) : Statement (.rxAccept cap) := rfl
theorem filterGen (id : CanId) : Statement (.filterGen id) := rfl
theorem reservedB : Statement .reservedB := rfl
theorem reservedC : Statement .reservedC := rfl
theorem reservedD : Statement .reservedD := rfl
theorem reservedE : Statement .reservedE := rfl
theorem reservedF : Statement .reservedF := rfl

end Sys2Proof.Laws.DecodeEncode
end

