-- ==== Sys2Proof/Laws/Runs.lean ====
section
/-! SUPPORT. Runs of several steps: one step off the front, and one issued instruction off the front. -/

namespace Sys2Proof.Machine

theorem run_succ {s t : State} (k : Nat) (h : step s = .next t) :
    Host.Core.run Sys2Proof.core (k + 1) s = Host.Core.run Sys2Proof.core k t := by
  simp only [Host.Core.run]
  rw [show Sys2Proof.core.step s = .next t from h]

/-- An encoded command decodes to its instruction. -/
theorem decode_encode (i : Instr) : decode (encode i) = i := by
  cases i <;> rfl

/-- A step with an issued instruction in front runs it. -/
theorem step_issue_cons (s : State) (i : Instr) (is : List Instr) :
    step { s with pending := issue (i :: is) } = .next (after i { s with pending := issue is }) := by
  simp only [issue, List.map_cons, step, decode_encode, exec_eq]

theorem run_issue_cons (s : State) (i : Instr) (is : List Instr) (k : Nat) :
    Host.Core.run Sys2Proof.core (k + 1) { s with pending := issue (i :: is) } =
      Host.Core.run Sys2Proof.core k (after i { s with pending := issue is }) :=
  run_succ k (step_issue_cons s i is)

end Sys2Proof.Machine
end

