-- ==== Sys2Proof/Machine/Assembly.lean ====
section
/-! DEFINITION. The command syntax of R54: a mnemonic and the ports the command reads, each as port=value, with
comments from a semicolon. No step uses it. The points R54 leaves open are in notes/assumptions/14.md. -/

namespace Sys2Proof.Machine

/-- A value as written: a number, or a byte array. -/
inductive AsmValue where
  | num (n : Nat)
  | bytes (bs : List Byte)
deriving DecidableEq, Repr

/-- A space of the syntax. R54 says spaces; a tab is taken as one (DESIGN CHOICE, safe: notes/assumptions/14.md). -/
def isBlank (c : Char) : Bool := c == ' ' || c == '\t'

/-- Splits at spaces, except inside brackets; `cur` is the word read so far, last character first. -/
def splitWords (cs : List Char) (inBrackets : Bool) (cur : List Char) : List (List Char) :=
  match cs with
  | [] => if cur.isEmpty then [] else [cur.reverse]
  | c :: rest =>
    if c == '[' then splitWords rest true (c :: cur)
    else if c == ']' then splitWords rest false (c :: cur)
    else if isBlank c && !inBrackets then
      if cur.isEmpty then splitWords rest inBrackets [] else cur.reverse :: splitWords rest inBrackets []
    else splitWords rest inBrackets (c :: cur)

/-- The words of a line, its comment dropped. -/
def lineWords (line : String) : List (List Char) := splitWords (line.toList.takeWhile (· != ';')) false []

/-- The value of a digit in a base up to 16. R54 does not say the case of a hexadecimal digit; both are taken (DESIGN
CHOICE, safe: notes/assumptions/14.md). -/
def digitValue (base : Nat) (c : Char) : Option Nat :=
  let v :=
    if '0' ≤ c ∧ c ≤ '9' then some (c.toNat - 48)
    else if 'a' ≤ c ∧ c ≤ 'f' then some (c.toNat - 87)
    else if 'A' ≤ c ∧ c ≤ 'F' then some (c.toNat - 55)
    else none
  v.filter (· < base)

/-- A run of digits, at least one; leading zeros are taken (DESIGN CHOICE, safe: notes/assumptions/14.md). -/
def digits (base : Nat) (cs : List Char) : Option Nat :=
  if cs.isEmpty then none
  else cs.foldl (fun acc c => acc.bind fun n => (digitValue base c).map (n * base + ·)) (some 0)

/-- A number, decimal or hexadecimal with 0x. -/
def parseNumber (cs : List Char) : Option Nat :=
  match cs with
  | '0' :: 'x' :: ds => digits 16 ds
  | ds => digits 10 ds

/-- One byte of a byte array: one or two hexadecimal digits, without 0x. R54 says only "hexadecimal bytes"; how many
digits a byte has is the model's choice (DESIGN CHOICE, safe: notes/assumptions/14.md). -/
def parseByte (cs : List Char) : Option Byte :=
  if cs.length ≤ 2 then (digits 16 cs).map (BitVec.ofNat 8) else none

/-- A value: a bracketed byte array or a number. -/
def parseValue (cs : List Char) : Option AsmValue :=
  match cs with
  | '[' :: rest =>
    if rest.getLast? == some ']' then ((splitWords rest.dropLast false []).mapM parseByte).map .bytes else none
  | _ => (parseNumber cs).map .num

/-- A port by the name it has in R17. -/
def portNamed (name : String) : Option PortName :=
  match name with
  | "value" => some .value
  | "eff" => some .eff
  | "rtr" => some .rtr
  | "err" => some .err
  | "raw" => some .raw
  | "plen" => some .plen
  | "payload" => some .payload
  | "frame" => some .frame
  | "chunk" => some .chunk
  | "clen" => some .clen
  | "cap" => some .cap
  | _ => none

/-- One `port=value`. -/
def parsePort (cs : List Char) : Option (PortName × AsmValue) :=
  match portNamed (String.ofList (cs.takeWhile (· != '='))), cs.dropWhile (· != '=') with
  | some p, _ :: v => (parseValue v).map fun x => (p, x)
  | _, _ => none

/-- The number written for a port, when it fits the port's width (R57). -/
def numOf (args : List (PortName × AsmValue)) (p : PortName) (width : Nat) : Option (BitVec width) :=
  match args.lookup p with
  | some (.num n) => if n < 2 ^ width then some (BitVec.ofNat width n) else none
  | _ => none

/-- The bit written for a 1-bit port. -/
def bitOf (args : List (PortName × AsmValue)) (p : PortName) : Option Bool := (numOf args p 1).map (· == 1)

/-- The byte array written for a port of k bytes. An omitted byte beyond the count is don't-care (R54). That it is put at
zero, that at least `need` bytes must be written, and that the whole port may be left out when none is needed, is the
model's choice (DESIGN CHOICE, safe: notes/assumptions/14.md). -/
def bytesOf (args : List (PortName × AsmValue)) (p : PortName) (k need : Nat) : Option (Vector Byte k) :=
  match args.lookup p with
  | some (.bytes bs) =>
    if need ≤ bs.length ∧ bs.length ≤ k then some (Vector.ofFn fun i => bs.getD i.val 0) else none
  | some (.num _) => none
  | none => if need = 0 then some (Vector.replicate k 0) else none

/-- How many bytes of an array of k bytes must be written for a count: the count, and none where the command refuses the
count and so reads no byte (DESIGN CHOICE, safe: notes/assumptions/14.md). -/
def bytesNeeded (k count : Nat) : Nat := if count ≤ k then count else 0

/-- The group `in.id` (R50). -/
def idOf (args : List (PortName × AsmValue)) : Option CanId := do
  let value ← numOf args .value 32
  let eff ← bitOf args .eff
  let rtr ← bitOf args .rtr
  let err ← bitOf args .err
  return { value, eff, rtr, err }

/-- The operands of FRAME_PACK and TX_PREP (R50). -/
def payloadOperandsOf (args : List (PortName × AsmValue)) : Option (CanId × Word × Slot) := do
  let id ← idOf args
  let plen ← numOf args .plen 32
  let payload ← bytesOf args .payload 8 (bytesNeeded 8 plen.toNat)
  return (id, plen, payload)

/-- The instruction of a mnemonic and its ports. A reserved opcode has no mnemonic (R52, R54). -/
def instrOf (mnemonic : String) (args : List (PortName × AsmValue)) : Option Instr :=
  match mnemonic with
  | "NOP" => some .nop
  | "ID_ENCODE" => (idOf args).map .idEncode
  | "ID_DECODE" => (numOf args .raw 32).map .idDecode
  | "ID_CHECK" => (idOf args).map .idCheck
  | "FRAME_PACK" => (payloadOperandsOf args).map fun o => .framePack o.1 o.2.1 o.2.2
  | "FRAME_UNPACK" => (bytesOf args .frame 16 16).map .frameUnpack
  | "FRAME_CHECK" => (bytesOf args .frame 16 16).map .frameCheck
  | "TX_PREP" => (payloadOperandsOf args).map fun o => .txPrep o.1 o.2.1 o.2.2
  | "RX_PUSH" => do
    let clen ← numOf args .clen 5
    let chunk ← bytesOf args .chunk 16 (bytesNeeded 16 clen.toNat)
    return .rxPush chunk clen
  | "RX_ACCEPT" => (numOf args .cap 32).map .rxAccept
  | "FILTER_GEN" => (idOf args).map .filterGen
  | _ => none

/-- The ports that a mnemonic's command reads (R50). -/
def portsOfMnemonic (mnemonic : String) : List PortName :=
  match commandRows.find? (·.mnemonic == mnemonic) with
  | some r => r.ports
  | none => []

/-- The words of a line as an instruction: only ports that the command reads (R54), none written twice, in any order (the
last two DESIGN CHOICE, safe: notes/assumptions/14.md). -/
def assembleWords (mnemonic : List Char) (rest : List (List Char)) : Option Instr := do
  let args ← rest.mapM parsePort
  let name := String.ofList mnemonic
  if args.all (fun a => (portsOfMnemonic name).contains a.1) && decide (args.map (·.1)).Nodup then instrOf name args
  else none

/-- One line of the syntax of R54; none where it is no command. -/
def assemble (line : String) : Option Instr :=
  match lineWords line with
  | [] => none
  | mnemonic :: rest => assembleWords mnemonic rest

end Sys2Proof.Machine
end

