-- ==== Sys2Proof/Tests/Slice0.lean ====
section
/-! SUPPORT. The model's own tests. Expected results are those of spec/95_test_vectors.md (its part or table is named),
of the rules' own examples, or worked by hand from the rules; then the witnesses of the statements' hypotheses. -/

namespace Sys2Proof.Tests

open Sys2Proof Sys2Proof.Machine

/-- The outcome is a next state with this property. -/
def ends (o : Host.Outcome State Fault Refusal) (p : State → Bool) : Bool :=
  match o with
  | .next t => p t
  | .fault _ => false
  | .refused _ => false

/-- A standard id with no flag. -/
def std (value : Word) : CanId := ⟨value, false, false, false⟩

/-- An extended id with no other flag. -/
def ext (value : Word) : CanId := ⟨value, true, false, false⟩

/-- Reset with an image staged up to a count. -/
def staged (w : Image) (n : BitVec 5) : State := { State.reset with stage := w, stageCnt := n }

/-- The image of the table RX_ACCEPT of part 2. -/
def img : Image := #v[0x23, 0x01, 0, 0, 0x04, 0, 0, 0, 0xDE, 0xAD, 0xBE, 0xEF, 0, 0, 0, 0]

/-- The image of E7: ERR set, length 8. -/
def errImg : Image := #v[0, 0, 0, 0x20, 8, 0, 0, 0, 1, 2, 3, 4, 5, 6, 7, 8]

/-- The payload of E2. -/
def oneToEight : Slot := #v[1, 2, 3, 4, 5, 6, 7, 8]

/-- The status of a failing command (R93). -/
def failedWith (detail : BitVec 3) (t : State) : Bool := t.errCode == 1 && t.errDetail == detail && !t.txStrobe

/-! ### WellFormed: the one check refuses each reserved opcode (R52) and no command (R49) -/

theorem test_wf_refuses_reserved :
    [Instr.reservedB, .reservedC, .reservedD, .reservedE, .reservedF].all (fun i => !i.wf) = true := by decide

theorem test_wf_accepts_commands : Instr.nop.wf = true ∧ (Instr.rxPush img 31).wf = true := by decide

/-! ### The opcode table: no two rows overlap, every opcode has a row, and the decoder agrees with the table -/

theorem test_rows_do_not_overlap :
    opcodeTable.Pairwise (fun r q => ∀ op : BitVec 4, ¬(r.fits op = true ∧ q.fits op = true)) := by decide

theorem test_every_opcode_has_its_row :
    ∀ op : BitVec 4, (opcodeTable.filter (·.fits op)).map (·.code) = [op] ∧ opcode (decode ⟨op, Ports.zero⟩) = op := by
  decide

/-! ### Decoding: the words of the opcode table, bit by bit (30_encoding.md R49) -/

theorem test_decode_id_family (p : Ports) :
    decode ⟨0b0001#4, p⟩ = .idEncode ⟨p.value, p.eff, p.rtr, p.err⟩ ∧ decode ⟨0b0010#4, p⟩ = .idDecode p.raw ∧
      decode ⟨0b0011#4, p⟩ = .idCheck ⟨p.value, p.eff, p.rtr, p.err⟩ := ⟨rfl, rfl, rfl⟩

theorem test_decode_frame_family (p : Ports) :
    decode ⟨0b0100#4, p⟩ = .framePack ⟨p.value, p.eff, p.rtr, p.err⟩ p.plen p.payload ∧
      decode ⟨0b0101#4, p⟩ = .frameUnpack p.frame ∧ decode ⟨0b0110#4, p⟩ = .frameCheck p.frame := ⟨rfl, rfl, rfl⟩

theorem test_decode_transfer_family (p : Ports) :
    decode ⟨0b0111#4, p⟩ = .txPrep ⟨p.value, p.eff, p.rtr, p.err⟩ p.plen p.payload ∧
      decode ⟨0b1000#4, p⟩ = .rxPush p.chunk p.clen ∧ decode ⟨0b1001#4, p⟩ = .rxAccept p.cap := ⟨rfl, rfl, rfl⟩

theorem test_decode_filter_nop_reserved (p : Ports) :
    decode ⟨0b1010#4, p⟩ = .filterGen ⟨p.value, p.eff, p.rtr, p.err⟩ ∧ decode ⟨0b0000#4, p⟩ = .nop ∧
      decode ⟨0b1011#4, p⟩ = .reservedB ∧ decode ⟨0b1100#4, p⟩ = .reservedC ∧ decode ⟨0b1101#4, p⟩ = .reservedD ∧
      decode ⟨0b1110#4, p⟩ = .reservedE ∧ decode ⟨0b1111#4, p⟩ = .reservedF := ⟨rfl, rfl, rfl, rfl, rfl, rfl, rfl⟩

theorem test_decodeTableWord :
    decodeTableWord 8 0xA = some (.filterGen (std 0)) ∧ decodeTableWord 8 0xF = some .reservedF ∧
      decodeTableWord 8 0x10 = none := by decide

theorem test_withFetchWord_runs_after_reset :
    ends (step (State.reset.withFetchWord 8 0xC)) (fun t => t.errCode == 2 && t.pending == []) = true := by decide

/-! ### ID_ENCODE, ID_DECODE, ID_CHECK (part 2; E1) -/

theorem test_idEncode :
    ends (exec (.idEncode ⟨0x1FFFFFFF, true, true, false⟩) State.reset) (fun t => t.rRaw == 0xDFFFFFFF) = true ∧
      ends (exec (.idEncode (ext 0xFFFFFFFF)) State.reset) (fun t => t.rRaw == 0x9FFFFFFF) = true := by decide

theorem test_idEncode_drops_bit_29_of_the_value :
    ends (exec (.idEncode (std 0x20000000)) State.reset) (fun t => t.rRaw == 0x00000000) = true ∧
      ends (exec (.idEncode ⟨0, false, false, true⟩) State.reset) (fun t => t.rRaw == 0x20000000) = true := by decide

theorem test_idDecode :
    ends (exec (.idDecode 0x400007FF) State.reset) (fun t => t.rId == ⟨0x7FF, false, true, false⟩) = true ∧
      ends (exec (.idDecode 0xFFFFFFFF) State.reset) (fun t => t.rId == ⟨0x1FFFFFFF, true, true, true⟩) = true := by
  decide

theorem test_idCheck_boundaries :
    [std 0, std 0x7FF, ext 0, ext 0x1FFFFFFF, ⟨0x7FF, false, true, false⟩, ext 0x800].all
        (fun id => ends (exec (.idCheck id) State.reset) (·.rValid)) = true ∧
      [std 0x800, std 0xFFFFFFFF, ext 0x20000000, ext 0xFFFFFFFF, ⟨0, false, false, true⟩, ⟨0x123, true, true, true⟩].all
        (fun id => ends (exec (.idCheck id) State.reset) (!·.rValid)) = true := by decide

/-! ### FRAME_PACK, FRAME_UNPACK, FRAME_CHECK (part 2) -/

theorem test_framePack_does_not_read_past_plen :
    ends (exec (.framePack (std 0x123) 3 #v[0x11, 0x22, 0x33, 0x44, 0x55, 0x66, 0x77, 0x88]) State.reset)
      (fun t => t.rFrame == #v[0x23, 0x01, 0, 0, 3, 0, 0, 0, 0x11, 0x22, 0x33, 0, 0, 0, 0, 0]) = true ∧
    ends (exec (.framePack (std 0x123) 9 oneToEight) State.reset) (failedWith 2) = true := by decide

/-- The vector with HOST_LE = false. -/
theorem test_framePack_big_endian :
    ends (exec (.framePack (ext 0x12345678) 1 #v[9, 0, 0, 0, 0, 0, 0, 0])
        { State.reset with cfg := { hostLE := false, flags := .effRtrErr } })
      (fun t => t.rFrame == #v[0x92, 0x34, 0x56, 0x78, 1, 0, 0, 0, 9, 0, 0, 0, 0, 0, 0, 0]) = true := by decide

theorem test_frameUnpack :
    ends (exec (.frameUnpack #v[0x23, 1, 0, 0, 2, 0xAA, 0xBB, 0xCC, 0xDE, 0xAD, 0x11, 0x22, 0x33, 0x44, 0x55, 0x66])
        State.reset)
      (fun t => t.rId == std 0x123 && t.rLen == 2 && t.rData == #v[0xDE, 0xAD, 0x11, 0x22, 0x33, 0x44, 0x55, 0x66])
      = true ∧
    ends (exec (.frameUnpack (Vector.replicate 16 0xFF)) State.reset)
      (fun t => t.rId == ⟨0x1FFFFFFF, true, true, true⟩ && t.rLen == 255) = true := by decide

theorem test_frameCheck :
    ends (exec (.frameCheck #v[0xFF, 0xFF, 0xFF, 0x9F, 8, 0, 0, 0, 0, 0, 0, 0, 0, 0, 0, 0]) State.reset) (·.rValid) = true ∧
    [errImg, #v[0, 8, 0, 0, 1, 0, 0, 0, 0x77, 0, 0, 0, 0, 0, 0, 0],
      #v[0x23, 1, 0, 0, 9, 0, 0, 0, 0, 0, 0, 0, 0, 0, 0, 0]].all
        (fun w => ends (exec (.frameCheck w) { State.reset with rValid := true }) (!·.rValid)) = true := by decide

/-! ### TX_PREP, RX_PUSH, RX_ACCEPT (part 2; E3, E5, E7) -/

theorem test_txPrep :
    ends (exec (.txPrep ⟨0x123, false, true, false⟩ 4 #v[1, 2, 3, 4, 0, 0, 0, 0]) State.reset)
      (fun t => t.rFrame == #v[0x23, 1, 0, 0x40, 4, 0, 0, 0, 1, 2, 3, 4, 0, 0, 0, 0] && t.txStrobe) = true := by decide

theorem test_txPrep_checks_the_id_first :
    ends (exec (.txPrep ⟨0, false, false, true⟩ 9 oneToEight) State.reset) (failedWith 1) = true ∧
      ends (exec (.txPrep (std 0x123) 9 oneToEight) State.reset) (failedWith 2) = true := by decide

/-- R78's example. -/
theorem test_rxPush :
    ends (exec (.rxPush #v[4, 0, 0, 0, 0xAA, 9, 9, 9, 9, 9, 9, 9, 9, 9, 9, 9] 5) (staged img 3))
      (fun t => t.stageCnt == 8 &&
        t.stage == #v[0x23, 0x01, 0, 4, 0, 0, 0, 0xAA, 0xDE, 0xAD, 0xBE, 0xEF, 0, 0, 0, 0]) = true := by decide

theorem test_rxPush_overflow :
    [((16 : BitVec 5), (1 : BitVec 5)), (10, 7), (0, 17)].all
      (fun c => ends (exec (.rxPush errImg c.2) (staged img c.1))
        (fun t => failedWith 4 t && t.stage == img && t.stageCnt == c.1)) = true := by decide

theorem test_rxAccept_ok_and_invalid :
    ends (exec (.rxAccept 8) (staged img 16))
      (fun t => t.rxStatus == 1 && t.rId == std 0x123 && t.rLen == 4 && t.rBe == 0x0F && t.stageCnt == 0 &&
        t.rData == #v[0xDE, 0xAD, 0xBE, 0xEF, 0, 0, 0, 0]) = true ∧
    ends (exec (.rxAccept 8) (staged errImg 16))
      (fun t => t.rxStatus == 3 && t.rId == ⟨0, false, false, true⟩ && t.rLen == 0 && t.rBe == 0) = true := by decide

theorem test_rxAccept_no_data_and_small_sink :
    ends (exec (.rxAccept 8) (staged img 2)) (fun t => t.rxStatus == 2 && t.rId == std 0 && t.errCode == 0) = true ∧
    ends (exec (.rxAccept 8) (staged img 15)) (fun t => t.rxStatus == 2 && t.rId == std 0x123 && t.stageCnt == 0) = true ∧
    ends (exec (.rxAccept 7) (staged img 16)) (fun t => failedWith 3 t && t.stageCnt == 16 && t.rxStatus == 0) = true := by
  decide

/-- R84: the four enabled bytes reach the sink and no other byte of it changes (P2). -/
theorem test_sinkCopy :
    ends (exec (.rxAccept 64) (staged img 16))
      (fun t => sinkCopy t (List.replicate 10 0x55) == [0xDE, 0xAD, 0xBE, 0xEF, 0x55, 0x55, 0x55, 0x55, 0x55, 0x55])
      = true := by decide

/-! ### FILTER_GEN, NOP, reserved opcodes (part 2; E6) -/

theorem test_filterGen :
    ends (exec (.filterGen (std 0x123)) State.reset) (fun t => t.fId == 0x00000123 && t.fMask == 0xC0000123) = true ∧
      ends (exec (.filterGen (ext 0x1FFFFFFF)) State.reset) (fun t => t.fId == 0x9FFFFFFF && t.fMask == 0xDFFFFFFF)
        = true := by decide

theorem test_filterGen_invalid :
    ends (exec (.filterGen (std 0x800)) { State.reset with fId := 7, fMask := 9 })
      (fun t => failedWith 1 t && t.fId == 7 && t.fMask == 9) = true := by decide

theorem test_nop :
    ends (exec .nop { State.reset with txStrobe := true, errCode := 1, errDetail := 2, rRaw := 5 })
      (fun t => t == { State.reset with rRaw := 5 }) = true := by decide

theorem test_reserved :
    [Instr.reservedB, .reservedC, .reservedD, .reservedE, .reservedF].all
      (fun i => ends (exec i { State.reset with txStrobe := true, rLen := 3 })
        (fun t => t == { State.reset with errCode := 2, rLen := 3 })) = true := by decide

/-! ### The command syntax (the examples of R54) -/

theorem test_assemble_id_examples :
    assemble "ID_ENCODE  value=0x123 eff=0 rtr=0 err=0" = some (.idEncode (std 0x123)) ∧
      assemble "ID_DECODE  raw=0x80000123" = some (.idDecode 0x80000123) ∧
      assemble "FILTER_GEN value=0x123 eff=0 rtr=0 err=0 ; standard" = some (.filterGen (std 0x123)) := by decide

theorem test_assemble_array_examples :
    assemble "FRAME_PACK value=0x123 eff=0 rtr=0 err=0 plen=2 payload=[DE AD]" =
        some (.framePack (std 0x123) 2 #v[0xDE, 0xAD, 0, 0, 0, 0, 0, 0]) ∧
      assemble "RX_PUSH    clen=3 chunk=[23 01 00]" =
        some (.rxPush #v[0x23, 1, 0, 0, 0, 0, 0, 0, 0, 0, 0, 0, 0, 0, 0, 0] 3) ∧
      assemble "RX_ACCEPT  cap=8" = some (.rxAccept 8) := by decide

/-- A number wider than its port (R57), a port the command does not read, an array shorter than its count, a byte of more
than two digits (log 14). -/
theorem test_assemble_refuses :
    assemble "RX_PUSH clen=32 chunk=[00]" = none ∧ assemble "NOP cap=8" = none ∧
      assemble "RX_PUSH clen=2 chunk=[00]" = none ∧ assemble "RX_PUSH clen=1 chunk=[00DE]" = none := by decide

/-! ### Witnesses: for each statement with hypotheses, a state and operands that meet them all, by clause where it has
several, at the ends of a range -/

theorem witness_UnlistedPortsHaveNoEffect :
    (∀ n ∈ portsRead 0x9, sameOnPort Ports.zero { Ports.zero with raw := 1, clen := 3 } n = true) ∧
      ∀ n ∈ portsRead 0x4, sameOnPort Ports.zero { Ports.zero with cap := 9 } n = true := by decide

theorem witness_BytesPastTheCountAreNotRead :
    SamePrefix (2 : Word).toNat oneToEight #v[1, 2, 0, 0, 0, 0, 0, 0] ∧
      SamePrefix (0 : Word).toNat oneToEight #v[9, 9, 9, 9, 9, 9, 9, 9] ∧
      SamePrefix (4 : BitVec 5).toNat img #v[0x23, 1, 0, 0, 9, 9, 9, 9, 9, 9, 9, 9, 9, 9, 9, 9] := by decide

theorem witness_StepRunsTheDecodedCommand :
    ({ State.reset with pending := [.command ⟨0x9, Ports.zero⟩, .reset] } : State).pending =
      .command ⟨0x9, Ports.zero⟩ :: [.reset] := rfl

theorem witness_FetchedWordRunsNext :
    decodeTableWord 8 0 = some .nop ∧ decodeTableWord 8 15 = some .reservedF := by decide

theorem witness_IdlePortChangesNothing : State.reset.pending = [] := rfl

theorem witness_ResetGivesEveryRegisterItsValue :
    ∃ s : State, s.rRaw = 7 ∧ resetBlock s = State.reset := ⟨{ State.reset with rRaw := 7 }, rfl, rfl⟩

theorem witness_HostResetIsAStep :
    ({ State.reset with rRaw := 7, pending := [.reset, .reset] } : State).pending = .reset :: [.reset] := rfl

theorem witness_NoStepChangesAParameter : ∃ t, step (State.reset.withFetchWord 8 7) = .next t := ⟨_, rfl⟩

theorem witness_EncodeIdPlacesEveryBit : 0 < 29 ∧ 28 < 29 := by decide

theorem witness_DecodeIdReadsEveryBit : 28 < 29 ∧ (29 < 32 ∧ 29 ≤ 29) ∧ 31 < 32 ∧ 29 ≤ 31 := by decide

theorem witness_RawWordAndIdentifierRoundTrip :
    (ext 0x1FFFFFFF).value.toNat ≤ 0x1FFFFFFF ∧ 0x1FFFFFFF < (ext 0x20000000).value.toNat := by decide

theorem witness_StandardValuesAreNotTruncated :
    [std 0x800, std 0x1FFFFFFF].all
      (fun id => !id.eff && decide (0x7FF < id.value.toNat) && decide (id.value.toNat ≤ 0x1FFFFFFF)) = true ∧
      (8 : Word).toNat ≤ 8 := by decide

theorem witness_IdentifierBytesFollowHostOrder :
    7 < 8 ∧ Config.default.hostLE = true ∧ (⟨false, .effRtrErr⟩ : Config).hostLE = false := by decide

theorem witness_PackFrameWritesEveryByte : (0 : Word).toNat ≤ 8 ∧ (8 : Word).toNat ≤ 8 := by decide

theorem witness_UnpackFrameReadsTheImage :
    ∀ i : Fin 16, ¬(5 ≤ i.val ∧ i.val ≤ 7) →
      (#v[0, 0, 0, 0x20, 8, 9, 9, 9, 1, 2, 3, 4, 5, 6, 7, 8] : Image)[i] = errImg[i] := by decide

theorem witness_RtrDoesNotTouchLengthOrPayload : (8 : Word).toNat ≤ 8 ∧ 4 ≤ (4 : Fin 16).val ∧ 4 ≤ (15 : Fin 16).val := by decide

theorem witness_FramePackWritesTheImage : (8 : Word).toNat ≤ 8 ∧ 8 < (9 : Word).toNat := by decide

theorem witness_PackThenUnpackGivesTheFrameBack :
    (⟨0x1FFFFFFF, false, true, true⟩ : CanId).value.toNat ≤ 0x1FFFFFFF ∧ (8 : Word).toNat ≤ 8 := by decide

theorem witness_RepackedImageIsTheSameWhenClean : errImg[4].toNat ≤ 8 ∧ img[4].toNat ≤ 8 := by decide

theorem witness_TxPrepChecksThenPreparesTheImage :
    (idValid (std 0x7FF) = true ∧ (8 : Word).toNat ≤ 8) ∧ idValid (std 0x800) = false ∧
      idValid (ext 0x1FFFFFFF) = true ∧ 8 < (9 : Word).toNat := by decide

theorem witness_RxPushAppendsTheChunk :
    (((13 : BitVec 5).toNat : Int) ≤ 16 - ((staged img 3).stageCnt.toNat : Int)) ∧
      ((14 : BitVec 5).toNat : Int) > 16 - ((staged img 3).stageCnt.toNat : Int) := by decide

theorem witness_RxAcceptRejectsASmallSink : (7 : Word).toNat < 8 := by decide

theorem witness_RxAcceptDeliversAValidFrame :
    8 ≤ (8 : Word).toNat ∧ (staged img 16).stageCnt = 16 ∧
      frameValid (unpackFrame (staged img 16).cfg (staged img 16).stage).id
        (unpackFrame (staged img 16).cfg (staged img 16).stage).len = true := by decide

theorem witness_RxAcceptDiscardsAnInvalidFrame :
    8 ≤ (8 : Word).toNat ∧ (staged errImg 16).stageCnt = 16 ∧
      frameValid (unpackFrame (staged errImg 16).cfg (staged errImg 16).stage).id
        (unpackFrame (staged errImg 16).cfg (staged errImg 16).stage).len = false := by decide

theorem witness_RxAcceptReportsNoData :
    8 ≤ (8 : Word).toNat ∧ (staged img 0).stageCnt.toNat < 16 ∧ (staged img 15).stageCnt.toNat < 16 := by decide

theorem witness_NoDataReportsThePartialIdentifier :
    8 ≤ (8 : Word).toNat ∧ (staged img 4).stageCnt.toNat < 16 ∧ 4 ≤ (staged img 4).stageCnt.toNat ∧
      (staged img 3).stageCnt.toNat < 4 := by decide

theorem witness_AcceptReleasesTheStage :
    8 ≤ (8 : Word).toNat ∧ 8 ≤ (9 : Word).toNat ∧ ∃ t, exec (.rxAccept 8) (staged img 16) = .next t :=
  ⟨by decide, by decide, _, exec_eq _ _⟩

/-- OK and not OK, with a sink of exactly 8 bytes. -/
theorem witness_SinkReceivesExactlyTheDeclaredBytes :
    8 ≤ (8 : Word).toNat ∧ 8 ≤ (List.replicate 8 (0 : Byte)).length ∧
      ends (exec (.rxAccept 8) (staged img 16)) (·.rxStatus == 1) = true ∧
      ends (exec (.rxAccept 8) (staged img 0)) (·.rxStatus != 1) = true := by decide

/-- The reads of E4: 3 bytes, then 5, then 8. -/
def partialReads : List (Image × BitVec 5) :=
  [(#v[0x23, 1, 0, 9, 9, 9, 9, 9, 9, 9, 9, 9, 9, 9, 9, 9], 3), (#v[0, 4, 0, 0, 0, 9, 9, 9, 9, 9, 9, 9, 9, 9, 9, 9], 5),
    (#v[0xDE, 0xAD, 0xBE, 0xEF, 0, 0, 0, 0, 9, 9, 9, 9, 9, 9, 9, 9], 8)]

theorem witness_AnyPartialReadsReconstructTheFrame :
    idValid (std 0x123) = true ∧ (4 : Word).toNat ≤ 8 ∧ 8 ≤ (64 : Word).toNat ∧ State.reset.stageCnt = 0 ∧
      (∀ r ∈ partialReads, r.2.toNat ≤ 16) ∧
      delivered partialReads =
        (packFrame State.reset.cfg (std 0x123) 4 #v[0xDE, 0xAD, 0xBE, 0xEF, 0, 0, 0, 0]).toList := by decide

theorem witness_FilterPairFollowsTheFormula : 0 < 32 ∧ 31 < 32 := by decide

theorem witness_FilterGenWritesThePair : idValid (ext 0x1FFFFFFF) = true ∧ idValid (ext 0x20000000) = false := by decide

theorem witness_FilterMaskCoversTheFilterId : idValid (ext 0x1FFFFFFF) = true ∧ 28 < 29 := by decide

theorem witness_ReservedOpcodesRaiseIllegalOp :
    Instr.reservedF ∈ [Instr.reservedB, .reservedC, .reservedD, .reservedE, .reservedF] := by decide

theorem witness_ErrorsArePrecise :
    ∃ t, exec .reservedB State.reset = .next t ∧ t.errCode ≠ 0 := ⟨_, rfl, by decide⟩

theorem witness_StrobeMeansTheLastCommandPreparedASend :
    ends (exec (.txPrep (std 0) 0 oneToEight) State.reset) (·.txStrobe) = true ∧
      ends (exec (.txPrep (std 0) 9 oneToEight) State.reset) (!·.txStrobe) = true := by decide

/-- Each register of the statement does differ after one of its writers. -/
theorem witness_OnlyListedCommandsWriteARegister :
    ends (exec (.idEncode (std 1)) State.reset) (·.rRaw != 0) = true ∧
    ends (exec (.idDecode 1) State.reset) (·.rId != std 0) = true ∧
    ends (exec (.idCheck (std 1)) State.reset) (·.rValid) = true ∧
    ends (exec (.framePack (std 1) 1 oneToEight) State.reset) (·.rFrame != State.reset.rFrame) = true ∧
    ends (exec (.frameUnpack errImg) State.reset) (fun t => t.rLen != 0 && t.rData != State.reset.rData) = true ∧
    ends (exec (.rxAccept 8) (staged img 16)) (fun t => t.rBe != 0 && t.rxStatus != 0 && t.stageCnt != 16) = true ∧
    ends (exec (.filterGen (std 1)) State.reset) (fun t => t.fId != 0 && t.fMask != 0) = true ∧
    ends (exec (.rxPush img 1) State.reset) (·.stage != State.reset.stage) = true := by decide

theorem witness_OtherCommandsAreIdempotent :
    opcode .nop ≠ 0x8 ∧ opcode .nop ≠ 0x9 ∧ ∃ t, exec .nop State.reset = .next t := ⟨by decide, by decide, _, rfl⟩

theorem witness_BehaviourDependsOnPortsAndStageOnly :
    SameInputs (staged img 16) { staged img 16 with rRaw := 5, rValid := true, errCode := 2 } ∧
      (∃ t, exec (.rxAccept 8) (staged img 16) = .next t) ∧
      ∃ t, exec (.rxAccept 8) { staged img 16 with rRaw := 5, rValid := true, errCode := 2 } = .next t :=
  ⟨by decide, ⟨_, exec_eq _ _⟩, _, exec_eq _ _⟩

theorem witness_StaleStageBytesAreNeverRead :
    SameButStale (staged img 15) (staged (img.set 15 0xFF) 15) ∧ SameButStale (staged img 0) (staged errImg 0) := by decide

theorem witness_EveryStepKeepsTheInvariant :
    StateInv State.reset ∧ StateInv (staged img 16) ∧ ∃ t, step (State.reset.withFetchWord 8 7) = .next t :=
  ⟨by decide, by decide, _, rfl⟩

end Sys2Proof.Tests
end

section
/-! PROOFS. The state: the derived signals (R33) and what TX_STROBE says of the last command (R27). -/

namespace Sys2Proof.Machine

/-! ### The derived output signals -/

theorem rxFull_iff (s : State) : rxFull s = true ↔ s.stageCnt.toNat = 16 := by
  rw [rxFull, beq_iff_eq, ← BitVec.toNat_inj]
  rfl

theorem rxSuccess_iff (s : State) : rxSuccess s = true ↔ s.rxStatus = 1 :=
  beq_iff_eq

/-- Settles O13, one signal at a time. -/
theorem derivedSignalsReadTheRegisters : Obligations.DerivedSignalsReadTheRegisters :=
  fun s => ⟨rxFull_iff s, rxSuccess_iff s⟩

/-! ### The send strobe -/

@[simp] theorem acceptStaged_txStrobe (s : State) : (acceptStaged s).txStrobe = s.txStrobe := by
  obtain ⟨-, h⟩ | ⟨-, -, h⟩ | ⟨-, -, h⟩ := acceptStaged_cases s <;> simp [h]

/-- The prologue clears TX_STROBE, and of all the commands only TX_PREP sets it again (R27, R48). -/
theorem after_txStrobe_of_not_txPrep (i : Instr) (s : State) (hi : ∀ id n p, i ≠ .txPrep id n p) :
    (after i s).txStrobe = false := by
  cases i with
  | txPrep id n p => exact absurd rfl (hi id n p)
  | framePack id n p => simp only [after]; split <;> simp
  | rxPush b n => simp only [after]; split <;> simp
  | rxAccept cap => simp only [after]; split <;> simp
  | filterGen id => simp only [after]; split <;> simp
  | _ => simp [after]

/-- A TX_PREP strobes exactly when it raises nothing: each failed check writes ERR_CODE over a cleared strobe (R75). -/
theorem after_txPrep_txStrobe (id : CanId) (n : Word) (p : Slot) (s : State) :
    (after (.txPrep id n p) s).txStrobe = true ↔ (after (.txPrep id n p) s).errCode = 0 := by
  simp only [after]
  split
  · simp
  · split <;> simp

/-- Settles O50, by the split of `after` into TX_PREP and all other instructions. -/
theorem strobeMeansTheLastCommandPreparedASend : Obligations.StrobeMeansTheLastCommandPreparedASend := by
  refine ⟨rfl, fun i s t ht => ?_⟩
  obtain rfl := eq_after_of_exec ht
  constructor
  · intro hstrobe
    by_cases hi : ∃ id n p, i = .txPrep id n p
    · obtain ⟨id, n, p, rfl⟩ := hi
      exact ⟨id, n, p, rfl, (after_txPrep_txStrobe id n p s).mp hstrobe⟩
    · have hclear := after_txStrobe_of_not_txPrep i s fun id n p h => hi ⟨id, n, p, h⟩
      rw [hclear] at hstrobe
      contradiction
  · rintro ⟨id, n, p, rfl, herr⟩
    exact (after_txPrep_txStrobe id n p s).mpr herr

end Sys2Proof.Machine
end

section
/-! PROOFS. The command port: the ports a command does not list (R50) do not reach its instruction, nor its step. -/

namespace Sys2Proof.Machine

/-- The group `in.id` is read from its four ports alone (R50). -/
theorem id_eq_of_sameOn_idPorts {p q : Ports} (h : ∀ n ∈ idPorts, sameOnPort p q n = true) : p.id = q.id := by
  obtain ⟨hvalue, heff, hrtr, herr⟩ : p.value = q.value ∧ p.eff = q.eff ∧ p.rtr = q.rtr ∧ p.err = q.err := by
    simpa [idPorts, sameOnPort] using h
  simp only [Ports.id, hvalue, heff, hrtr, herr]

/-- FRAME_PACK and TX_PREP list the same ports, the group `in.id`, `in.plen` and `in.payload` (R50). -/
theorem frameOperands_eq_of_sameOn {p q : Ports}
    (h : ∀ n ∈ idPorts ++ [.plen, .payload], sameOnPort p q n = true) :
    p.id = q.id ∧ p.plen = q.plen ∧ p.payload = q.payload := by
  obtain ⟨hid, hrest⟩ := List.forall_mem_append.mp h
  exact ⟨id_eq_of_sameOn_idPorts hid, by simpa [sameOnPort] using hrest⟩

/-- The decoder takes up no port that the opcode table does not list for the opcode (R50, R58). -/
theorem decode_eq_of_sameOn_portsRead {op : BitVec 4} {p q : Ports}
    (h : ∀ n ∈ portsRead op, sameOnPort p q n = true) : decode ⟨op, p⟩ = decode ⟨op, q⟩ := by
  match op, h with
  | 0x1#4, h | 0x3#4, h | 0xA#4, h => -- ID_ENCODE, ID_CHECK, FILTER_GEN
    have hid : p.id = q.id := id_eq_of_sameOn_idPorts h
    simp [decode, hid]
  | 0x2#4, h => -- ID_DECODE
    have hraw : p.raw = q.raw := eq_of_beq (h .raw (by decide))
    simp [decode, hraw]
  | 0x4#4, h | 0x7#4, h => -- FRAME_PACK, TX_PREP
    obtain ⟨hid, hplen, hpayload⟩ := frameOperands_eq_of_sameOn h
    simp [decode, hid, hplen, hpayload]
  | 0x5#4, h | 0x6#4, h => -- FRAME_UNPACK, FRAME_CHECK
    have hframe : p.frame = q.frame := eq_of_beq (h .frame (by decide))
    simp [decode, hframe]
  | 0x8#4, h => -- RX_PUSH
    have hchunk : p.chunk = q.chunk := eq_of_beq (h .chunk (by decide))
    have hclen : p.clen = q.clen := eq_of_beq (h .clen (by decide))
    simp [decode, hchunk, hclen]
  | 0x9#4, h => -- RX_ACCEPT
    have hcap : p.cap = q.cap := eq_of_beq (h .cap (by decide))
    simp [decode, hcap]
  -- NOP and the reserved opcodes take up no port
  | 0x0#4, _ | 0xB#4, _ | 0xC#4, _ | 0xD#4, _ | 0xE#4, _ | 0xF#4, _ => rfl
  | ⟨⟨n + 16, hn⟩⟩, _ => omega -- no opcode is wider than its port

/-- Settles O3: the step sees a command only through `decode`. -/
theorem unlistedPortsHaveNoEffect : Obligations.UnlistedPortsHaveNoEffect := by
  intro op p q s rest h
  simp only [step, decode_eq_of_sameOn_portsRead h]

end Sys2Proof.Machine
end

section
/-! PROOFS. The CanId flag packer: the raw word bit by bit (R59, R60), validity (R61) and the three commands on an
identifier (R62 to R64). -/

namespace Sys2Proof.Machine

/-! ### encodeId -/

/-- No flag position is below 29, so the value field of the raw word is the value's. -/
theorem encodeId_getLsbD_of_lt (cfg : Config) (id : CanId) {j : Nat} (hj : j < 29) :
    (encodeId cfg id).getLsbD j = id.value.getLsbD j := by
  obtain ⟨⟨heff, -⟩, ⟨hrtr, -⟩, ⟨herr, -⟩, -⟩ := flagPositions cfg.flags
  rw [encodeId_getLsbD cfg id j (by omega)]
  simp [hj, show j ≠ effPos cfg.flags by omega, show j ≠ rtrPos cfg.flags by omega,
    show j ≠ errPos cfg.flags by omega]

/-- At a flag position the value is masked off, and the other two flags stand elsewhere. -/
theorem encodeId_getLsbD_effPos (cfg : Config) (id : CanId) :
    (encodeId cfg id).getLsbD (effPos cfg.flags) = id.eff := by
  obtain ⟨⟨hlow, hhigh⟩, -, -, heffRtr, heffErr, -⟩ := flagPositions cfg.flags
  rw [encodeId_getLsbD cfg id _ hhigh]
  simp [Nat.not_lt.mpr hlow, heffRtr, heffErr]

theorem encodeId_getLsbD_rtrPos (cfg : Config) (id : CanId) :
    (encodeId cfg id).getLsbD (rtrPos cfg.flags) = id.rtr := by
  obtain ⟨-, ⟨hlow, hhigh⟩, -, heffRtr, -, hrtrErr⟩ := flagPositions cfg.flags
  rw [encodeId_getLsbD cfg id _ hhigh]
  simp [Nat.not_lt.mpr hlow, heffRtr.symm, hrtrErr]

theorem encodeId_getLsbD_errPos (cfg : Config) (id : CanId) :
    (encodeId cfg id).getLsbD (errPos cfg.flags) = id.err := by
  obtain ⟨-, -, ⟨hlow, hhigh⟩, -, heffErr, hrtrErr⟩ := flagPositions cfg.flags
  rw [encodeId_getLsbD cfg id _ hhigh]
  simp [Nat.not_lt.mpr hlow, heffErr.symm, hrtrErr.symm]

/-- R6: the six layouts are the permutations of 31, 30, 29. -/
theorem flagPositions_perm (l : FlagLayout) : [effPos l, rtrPos l, errPos l].Perm [31, 30, 29] := by
  cases l <;> decide

/-- Settles O14, one field of the raw word at a time. -/
theorem encodeIdPlacesEveryBit : Obligations.EncodeIdPlacesEveryBit := fun cfg id =>
  ⟨fun _ hj => encodeId_getLsbD_of_lt cfg id hj, encodeId_getLsbD_effPos cfg id, encodeId_getLsbD_rtrPos cfg id,
    encodeId_getLsbD_errPos cfg id, flagPositions_perm cfg.flags⟩

/-! ### decodeId -/

theorem decodeId_value_getLsbD (cfg : Config) (raw : Word) (j : Nat) :
    (decodeId cfg raw).value.getLsbD j = (raw.getLsbD j && decide (j < 29)) := by
  rw [decodeId, BitVec.getLsbD_and, valueMask_getLsbD]

/-- Settles O15: the value field is the mask's bits, and the flags are read where they stand. -/
theorem decodeIdReadsEveryBit : Obligations.DecodeIdReadsEveryBit := by
  intro cfg raw
  refine ⟨fun j hj => ?_, fun j _ hj => ?_, rfl, rfl, rfl⟩
  · rw [decodeId_value_getLsbD, decide_eq_true hj, Bool.and_true]
  · rw [decodeId_value_getLsbD, decide_eq_false (Nat.not_lt.mpr hj), Bool.and_false]

/-! ### idValid -/

/-- Settles O16: the bound is chosen by EFF, and `idValid` does not read RTR. -/
theorem idValidityIsTheRangeOfTheMode : Obligations.IdValidityIsTheRangeOfTheMode := by
  refine fun value eff rtr err => ⟨?_, rfl⟩
  rw [idValid_eq]
  cases eff with
  | false => simp
  | true => simp

/-! ### The commands -/

/-- Settles O17: the stated registers are those that `after` gives ID_ENCODE, by unfolding its one write and the prologue. -/
theorem idEncodeWritesTheRawWord : Obligations.IdEncodeWritesTheRawWord :=
  fun id s => exec_eq (.idEncode id) s

/-- Settles O18: the stated registers are those that `after` gives ID_DECODE, by unfolding its one write and the prologue. -/
theorem idDecodeWritesTheIdentifier : Obligations.IdDecodeWritesTheIdentifier :=
  fun raw s => exec_eq (.idDecode raw) s

/-- Settles O19: the stated registers are those that `after` gives ID_CHECK, by unfolding its one write and the prologue. -/
theorem idCheckWritesTheValidityBit : Obligations.IdCheckWritesTheValidityBit :=
  fun id s => exec_eq (.idCheck id) s

end Sys2Proof.Machine
end

section
/-! PROOFS. The CanFrame serializer: packFrame byte by byte (R67), what unpackFrame reads (R68), validity (R69) and
the three commands on a frame (R70 to R72). -/

namespace Sys2Proof.Machine

/-! ### packFrame -/

/-- A length within the slot fits the image's length byte, so no bit of it is lost (R67). -/
theorem packFrame_lenByte_toNat (cfg : Config) (id : CanId) {n : Word} (p : Slot) (hn : n.toNat ≤ 8) :
    (packFrame cfg id n p)[4].toNat = n.toNat := by
  rw [packFrame_lenByte, BitVec.toNat_setWidth, Nat.mod_eq_of_lt (by omega)]

/-- Settles O23, one region of the image at a time. -/
theorem packFrameWritesEveryByte : Obligations.PackFrameWritesEveryByte := by
  intro cfg id n p hn
  obtain ⟨h5, h6, h7⟩ := packFrame_padding cfg id n p
  exact ⟨fun i => packFrame_idByte cfg id n p i i.isLt, packFrame_lenByte_toNat cfg id p hn, h5, h6, h7,
    fun i => packFrame_slotByte cfg id n p i i.isLt⟩

/-! ### unpackFrame -/

/-- A read sees its range of the array and nothing else (R10). -/
theorem memRead_congr {k : Nat} {a b : Vector Byte k} {off n : Nat} (hk : off + n ≤ k)
    (h : ∀ i (hi : i < n), a[off + i] = b[off + i]) : memRead a off n hk = memRead b off n hk := by
  apply Vector.ext
  intro i hi
  rw [memRead_getElem, memRead_getElem, h i hi]

theorem memRead_zero_four {k : Nat} (a : Vector Byte k) (hk : 0 + 4 ≤ k) :
    memRead a 0 4 hk = #v[a[0], a[1], a[2], a[3]] :=
  rfl

/-- Bytes 5 to 7 are in neither of the two ranges that `unpackFrame` reads, and are not the length byte (R68). -/
theorem unpackFrame_eq_of_eq_outside_padding (cfg : Config) {v w : Image}
    (h : ∀ i : Fin 16, ¬(5 ≤ i.val ∧ i.val ≤ 7) → v[i] = w[i]) : unpackFrame cfg v = unpackFrame cfg w := by
  have hid : memRead v 0 4 (by decide) = memRead w 0 4 (by decide) :=
    memRead_congr _ fun i hi => h ⟨0 + i, by omega⟩ (by simp only; omega)
  have hlen : v[4] = w[4] := h 4 (by decide)
  have hdata : memRead v 8 8 (by decide) = memRead w 8 8 (by decide) :=
    memRead_congr _ fun i hi => h ⟨8 + i, by omega⟩ (by simp only; omega)
  simp only [unpackFrame, hid, hlen, hdata]

/-- Settles O24: the three fields are two reads and one byte, none of them of the padding. -/
theorem unpackFrameReadsTheImage : Obligations.UnpackFrameReadsTheImage := by
  intro cfg w
  refine ⟨?_, rfl, fun i => ?_, fun v h => unpackFrame_eq_of_eq_outside_padding cfg h⟩
  · rw [unpackFrame, memRead_zero_four]
  · exact memRead_getElem w 8 8 (by decide) i i.isLt

/-! ### frameValid -/

/-- Settles O25: the unsigned comparison of `frameValid` is the one of the numbers. -/
theorem frameValidityIsIdAndLength : Obligations.FrameValidityIsIdAndLength := by
  intro id len
  rw [frameValid, Bool.and_eq_true, BitVec.ule, decide_eq_true_iff]
  rfl

/-! ### The commands -/

theorem payloadTooLong_iff (n : Word) : payloadTooLong n = true ↔ 8 < n.toNat :=
  decide_eq_true_iff

/-- FRAME_PACK ends by its one check, in the image or in the exception (R70). -/
theorem after_framePack_of_le (id : CanId) {n : Word} (p : Slot) (s : State) (hn : n.toNat ≤ 8) :
    after (.framePack id n p) s = setFrame (packFrame s.cfg id n p) (prologue s) :=
  if_neg (by rw [payloadTooLong_iff]; omega)

theorem after_framePack_of_gt (id : CanId) {n : Word} (p : Slot) (s : State) (hn : 8 < n.toNat) :
    after (.framePack id n p) s = setError 1 2 (prologue s) :=
  if_pos ((payloadTooLong_iff n).mpr hn)

/-- Settles O26, by the two outcomes of the length check; the id is in neither. -/
theorem framePackWritesTheImage : Obligations.FramePackWritesTheImage := by
  intro id n p s
  rw [exec_eq]
  constructor
  · intro hn
    rw [after_framePack_of_le id p s hn]
    rfl
  · intro hn
    rw [after_framePack_of_gt id p s hn]
    rfl

/-- Settles O27: the stated registers are those that `after` gives FRAME_UNPACK, by unfolding its writes and the
prologue. -/
theorem frameUnpackWritesTheFields : Obligations.FrameUnpackWritesTheFields :=
  fun w s => exec_eq (.frameUnpack w) s

/-- Settles O28: the stated registers are those that `after` gives FRAME_CHECK, by unfolding its one write and the
prologue. -/
theorem frameCheckWritesTheValidityBit : Obligations.FrameCheckWritesTheValidityBit :=
  fun w s => exec_eq (.frameCheck w) s

end Sys2Proof.Machine
end

section
/-! PROOFS. Send preparation and receive staging: the outcomes of TX_PREP (R75, R76), of RX_PUSH (R78) and of an
RX_ACCEPT with a whole image staged (R80, R82), each first as a state that `after` gives. -/

namespace Sys2Proof.Machine

/-! ### TX_PREP -/

/-- The id is checked before the length, so an invalid id is reported whatever the length is (R76). -/
theorem after_txPrep_of_invalid {id : CanId} (n : Word) (p : Slot) (s : State) (hid : idValid id = false) :
    after (.txPrep id n p) s = setError 1 1 (prologue s) := by
  simp [after, hid]

theorem after_txPrep_of_le {id : CanId} {n : Word} (p : Slot) (s : State) (hid : idValid id = true)
    (hn : n.toNat ≤ 8) : after (.txPrep id n p) s = prepareSend id n p (prologue s) := by
  simp [after, hid, payloadTooLong_iff, hn]

theorem after_txPrep_of_gt {id : CanId} {n : Word} (p : Slot) (s : State) (hid : idValid id = true)
    (hn : 8 < n.toNat) : after (.txPrep id n p) s = setError 1 2 (prologue s) := by
  simp [after, hid, payloadTooLong_iff, hn]

/-- Settles O32, by the outcomes of the two checks in their order. -/
theorem txPrepChecksThenPreparesTheImage : Obligations.TxPrepChecksThenPreparesTheImage := by
  intro id n p s
  rw [exec_eq]
  refine ⟨fun hid hn => ?_, fun hid => ?_, fun hid hn => ?_⟩
  · rw [after_txPrep_of_le p s hid hn]
    rfl
  · rw [after_txPrep_of_invalid n p s hid]
    rfl
  · rw [after_txPrep_of_gt p s hid hn]
    rfl

/-! ### RX_PUSH -/

theorem chunkTooLong_iff (c n : BitVec 5) : chunkTooLong c n = true ↔ 16 < c.toNat + n.toNat :=
  decide_eq_true_iff

/-- RX_PUSH ends by its one check, in the longer stage or in the exception (R78). -/
theorem after_rxPush_of_le (b : Image) {n : BitVec 5} {s : State} (h : s.stageCnt.toNat + n.toNat ≤ 16) :
    after (.rxPush b n) s = stageChunk b n (prologue s) :=
  if_neg (by rw [chunkTooLong_iff]; omega)

theorem after_rxPush_of_gt (b : Image) {n : BitVec 5} {s : State} (h : 16 < s.stageCnt.toNat + n.toNat) :
    after (.rxPush b n) s = setError 1 4 (prologue s) :=
  if_pos ((chunkTooLong_iff _ _).mpr h)

/-- A count of at most 16 fits the 5 bits of STAGE_CNT, so the sum does not wrap (R32). -/
theorem stageChunk_stageCnt_toNat (b : Image) {n : BitVec 5} {s : State} (h : s.stageCnt.toNat + n.toNat ≤ 16) :
    (stageChunk b n s).stageCnt.toNat = s.stageCnt.toNat + n.toNat := by
  rw [stageChunk_stageCnt, BitVec.toNat_add, Nat.mod_eq_of_lt (by omega)]

theorem stageChunk_stage_getElem (b : Image) (n : BitVec 5) (s : State) (k : Fin 16) :
    (stageChunk b n s).stage[k] =
      if s.stageCnt.toNat ≤ k.val ∧ k.val < s.stageCnt.toNat + n.toNat
      then b[k.val - s.stageCnt.toNat] else s.stage[k] := by
  split
  case isTrue h => exact memWrite_getElem_inside _ _ _ _ _ k.isLt h
  case isFalse h => exact memWrite_getElem_outside _ _ _ _ _ k.isLt h

/-- Settles O33: a chunk that fits is written over the prologue's state, which has the stage and the count of `s`. -/
theorem rxPushAppendsTheChunk : Obligations.RxPushAppendsTheChunk := by
  intro b n s
  rw [exec_eq]
  constructor
  · intro hfits
    have hsum : s.stageCnt.toNat + n.toNat ≤ 16 := by omega
    rw [after_rxPush_of_le b hsum]
    exact ⟨_, rfl, rfl, stageChunk_stageCnt_toNat b hsum, stageChunk_stage_getElem b n (prologue s)⟩
  · intro hlong
    rw [after_rxPush_of_gt b (by omega)]
    rfl

/-! ### RX_ACCEPT -/

theorem sinkTooSmall_iff (cap : Word) : sinkTooSmall cap = true ↔ cap.toNat < 8 :=
  decide_eq_true_iff

/-- The outcome does not depend on the size of a sink that is large enough (R79). -/
theorem after_rxAccept_of_le {cap : Word} (s : State) (hcap : 8 ≤ cap.toNat) :
    after (.rxAccept cap) s = releaseStage (acceptStaged (prologue s)) :=
  if_neg (by rw [sinkTooSmall_iff]; omega)

/-- With a whole image staged, the validity of the frame alone decides the outcome (R79). -/
theorem acceptStaged_of_valid {s : State} (hcnt : s.stageCnt = 16)
    (hvalid : frameValid (unpackFrame s.cfg s.stage).id (unpackFrame s.cfg s.stage).len = true) :
    acceptStaged s = acceptOk (unpackFrame s.cfg s.stage) s := by
  simp [acceptStaged, hcnt, hvalid]

theorem acceptStaged_of_invalid {s : State} (hcnt : s.stageCnt = 16)
    (hinvalid : frameValid (unpackFrame s.cfg s.stage).id (unpackFrame s.cfg s.stage).len = false) :
    acceptStaged s = acceptInvalid (unpackFrame s.cfg s.stage).id s := by
  simp [acceptStaged, hcnt, hinvalid]

/-- The low 8 bits of the 9-bit mask are `2 ^ len - 1` modulo 256, for a length byte above 8 too, where the shift
leaves 0 and the subtraction wraps (R8, R80). -/
theorem byteEnable_eq (len : BitVec 8) : byteEnable len = BitVec.ofNat 8 (2 ^ len.toNat - 1) := by
  have hpos : 0 < 2 ^ len.toNat := Nat.two_pow_pos _
  apply BitVec.eq_of_toNat_eq
  simp only [byteEnable, BitVec.toNat_setWidth, BitVec.toNat_sub, BitVec.toNat_shiftLeft, BitVec.toNat_ofNat,
    BitVec.ofNat_eq_ofNat, Nat.shiftLeft_eq, Nat.reducePow, Nat.reduceMod, one_mul]
  omega

/-- Settles O35: `accept_ok` and then the release, its byte enables written as a number. -/
theorem rxAcceptDeliversAValidFrame : Obligations.RxAcceptDeliversAValidFrame := by
  intro cap s hcap hcnt hvalid
  have hok : acceptStaged (prologue s) = acceptOk (unpackFrame s.cfg s.stage) (prologue s) :=
    acceptStaged_of_valid hcnt hvalid
  rw [exec_eq, after_rxAccept_of_le s hcap, hok, ← byteEnable_eq]
  rfl

/-- Settles O36: `accept_invalid` and then the release. -/
theorem rxAcceptDiscardsAnInvalidFrame : Obligations.RxAcceptDiscardsAnInvalidFrame := by
  intro cap s hcap hcnt hinvalid
  have hdiscard : acceptStaged (prologue s) = acceptInvalid (unpackFrame s.cfg s.stage).id (prologue s) :=
    acceptStaged_of_invalid hcnt hinvalid
  rw [exec_eq, after_rxAccept_of_le s hcap, hdiscard]
  rfl

end Sys2Proof.Machine
end

section
/-! PROOFS. The filter mask generator: the pair (R85) and the two outcomes of FILTER_GEN (R86). -/

namespace Sys2Proof.Machine

/-- Settles O43: `filterId` is the raw word by definition, and each term of the mask's formula gives its own bits. -/
theorem filterPairFollowsTheFormula : Obligations.FilterPairFollowsTheFormula :=
  fun cfg id => ⟨rfl, filterMask_getLsbD cfg id⟩

/-- FILTER_GEN ends by its one check, in the pair or in the exception (R86). -/
theorem after_filterGen_of_valid {id : CanId} (s : State) (hid : idValid id = true) :
    after (.filterGen id) s = setFilter id (prologue s) :=
  if_neg (by simp [hid])

theorem after_filterGen_of_invalid {id : CanId} (s : State) (hid : idValid id = false) :
    after (.filterGen id) s = setError 1 1 (prologue s) :=
  if_pos (by simp [hid])

/-- Settles O44, by the two outcomes of the validity check. -/
theorem filterGenWritesThePair : Obligations.FilterGenWritesThePair := by
  intro id s
  rw [exec_eq]
  constructor
  · intro hid
    rw [after_filterGen_of_valid s hid]
    rfl
  · intro hid
    rw [after_filterGen_of_invalid s hid]
    rfl

end Sys2Proof.Machine
end

section
/-! PROOFS. NOP (R90). -/

namespace Sys2Proof.Machine

/-- Settles O46: NOP leaves the prologue's state as it is, and the prologue writes the three status fields alone (R48). -/
theorem nopClearsTheStatusFields : Obligations.NopClearsTheStatusFields :=
  fun s => exec_eq .nop s

end Sys2Proof.Machine
end

section
/-! PROOFS. The reserved opcodes (R52, R94). -/

namespace Sys2Proof.Machine

/-- The five reserved opcodes all end in the same state: the IllegalOp exception over the prologue (R94). -/
theorem after_of_mem_reserved {i : Instr} (s : State)
    (hi : i ∈ [Instr.reservedB, .reservedC, .reservedD, .reservedE, .reservedF]) :
    after i s = setError 2 0 (prologue s) := by
  simp only [List.mem_cons, List.not_mem_nil, or_false] at hi
  obtain rfl | rfl | rfl | rfl | rfl := hi <;> rfl

/-- Settles O47: over the prologue, which clears TX_STROBE, the exception writes ERR_CODE and ERR_DETAIL alone. -/
theorem reservedOpcodesRaiseIllegalOp : Obligations.ReservedOpcodesRaiseIllegalOp := by
  intro i s hi
  rw [exec_eq, after_of_mem_reserved s hi]
  rfl

end Sys2Proof.Machine
end

section
/-! PROOFS. Reset (R108): one argument for State.reset and a reset of the block, the registers being the same. -/

namespace Sys2Proof.Machine

@[simp] theorem resetBlock_reset : resetBlock State.reset = State.reset := rfl

/-- Both states of R108 are a reset of the block in some state. -/
theorem exists_eq_resetBlock {r : State} (hr : r = State.reset ∨ ∃ s, r = resetBlock s) : ∃ s, r = resetBlock s := by
  obtain rfl | hblock := hr
  · exact ⟨State.reset, resetBlock_reset.symm⟩
  · exact hblock

/-- Settles O9: the scalar registers hold their values by `State.reset`, the byte arrays byte by byte. -/
theorem resetGivesEveryRegisterItsValue : Obligations.ResetGivesEveryRegisterItsValue := by
  refine ⟨fun r hr => ?_, fun s => resetBlock_cfg s⟩
  obtain ⟨s, rfl⟩ := exists_eq_resetBlock hr
  have hframe : ∀ i : Fin 16, (resetBlock s).rFrame[i] = 0 := fun i => Vector.getElem_replicate i.isLt
  have hdata : ∀ i : Fin 8, (resetBlock s).rData[i] = 0 := fun i => Vector.getElem_replicate i.isLt
  have hstage : ∀ i : Fin 16, (resetBlock s).stage[i] = 0 := fun i => Vector.getElem_replicate i.isLt
  exact ⟨rfl, rfl, rfl, hframe, rfl, hdata, rfl, rfl, rfl, rfl, rfl, rfl, rfl, hstage, rfl, rfl, rfl⟩

end Sys2Proof.Machine
end

section
/-! PROOFS. The step, case by case of the host's action (R45, R48, R91, R109), and a word handed to the machine. -/

namespace Sys2Proof.Machine

/-- Settles O7: an idle port is a step that answers its state. -/
theorem idlePortChangesNothing : Obligations.IdlePortChangesNothing := by
  intro s h
  simp only [step, h]

/-- Settles O10: of the state before, a reset keeps the parameters and the later actions. -/
theorem hostResetIsAStep : Obligations.HostResetIsAStep := by
  intro s rest h
  simp only [step, h, resetBlock]

/-- Settles O5: the command is taken off the list and decoded. -/
theorem stepRunsTheDecodedCommand : Obligations.StepRunsTheDecodedCommand := by
  intro s c rest h
  simp only [step, h]

theorem step_command {s : State} {c : Command} {rest : List HostAction} (h : s.pending = .command c :: rest) :
    step s = .next (after (decode c) { s with pending := rest }) := by
  rw [stepRunsTheDecodedCommand s c rest h, exec_eq]

/-- Settles O6: a word that decodes is a command word, so `withFetchWord` puts its command in front, and the step takes
it off again. -/
theorem fetchedWordRunsNext : Obligations.FetchedWordRunsNext := by
  intro s nbits w i hdecodes
  cases hword : commandOfWord w with
  | error e => simp [decodeTableWord, hword] at hdecodes
  | ok c =>
    obtain rfl : decode c = i := by simpa [decodeTableWord, hword] using hdecodes
    simp only [State.withFetchWord, hword, step]

/-- Settles O8: each of the three things a step can do is a next state. -/
theorem everyStepCompletes : Obligations.EveryStepCompletes := by
  intro s
  obtain ⟨-, h⟩ | ⟨rest, -, h⟩ | ⟨c, rest, -, h⟩ := step_cases s
  · exact ⟨_, h⟩
  · exact ⟨_, h⟩
  · exact ⟨_, h⟩

end Sys2Proof.Machine
end

section
/-! PROOFS. The opcode map and its encoder (R49, R50, R52, R58). -/

namespace Sys2Proof.Machine

/-- Settles O1, opcode by opcode: the dispatch reads the opcode alone and takes up the ports as they are. -/
theorem opcodeMapSelectsCommands : Obligations.OpcodeMapSelectsCommands := fun _ =>
  ⟨rfl, rfl, rfl, rfl, rfl, rfl, rfl, rfl, rfl, rfl, rfl, rfl, rfl, rfl, rfl, rfl⟩

/-- Two opcodes never decode to one constructor, so the instruction determines the opcode. -/
theorem opcode_decode (c : Command) : opcode (decode c) = c.op := by
  obtain ⟨op, p⟩ := c
  match op with
  | 0x0#4 | 0x1#4 | 0x2#4 | 0x3#4 | 0x4#4 | 0x5#4 | 0x6#4 | 0x7#4 | 0x8#4 | 0x9#4 | 0xA#4 | 0xB#4 | 0xC#4 | 0xD#4
  | 0xE#4 | 0xF#4 => rfl
  | ⟨⟨n + 16, hn⟩⟩ => omega -- no opcode is wider than its port

/-- Settles O2: the encoder's opcode is the instruction's. -/
theorem decodeOfEncodeIsIdentity : Obligations.DecodeOfEncodeIsIdentity :=
  ⟨decode_encode, opcode_decode⟩

end Sys2Proof.Machine
end

section
/-! PROOFS. How every instruction ends: either it raises the error that the cause table gives it (R95) over the
prologue, or it raises nothing and makes its writes over the prologue (R48). What the statements over all instructions
say of errors is read off the first, what they say of registers off the second. -/

namespace Sys2Proof.Machine

/-- An acceptance writes the five registers of the received frame and its status, and no other (R80 to R82). -/
theorem acceptStaged_frame (s : State) :
    acceptStaged s =
      { s with
        rId := (acceptStaged s).rId
        rLen := (acceptStaged s).rLen
        rData := (acceptStaged s).rData
        rBe := (acceptStaged s).rBe
        rxStatus := (acceptStaged s).rxStatus } := by
  obtain ⟨-, h⟩ | ⟨-, -, h⟩ | ⟨-, -, h⟩ := acceptStaged_cases s
  · rw [h]; rfl
  · rw [h]; rfl
  · rw [h]; rfl

section AcceptFrame

variable (s : State)

@[simp] theorem acceptStaged_rRaw : (acceptStaged s).rRaw = s.rRaw := by rw [acceptStaged_frame]
@[simp] theorem acceptStaged_rValid : (acceptStaged s).rValid = s.rValid := by rw [acceptStaged_frame]
@[simp] theorem acceptStaged_rFrame : (acceptStaged s).rFrame = s.rFrame := by rw [acceptStaged_frame]
@[simp] theorem acceptStaged_fId : (acceptStaged s).fId = s.fId := by rw [acceptStaged_frame]
@[simp] theorem acceptStaged_fMask : (acceptStaged s).fMask = s.fMask := by rw [acceptStaged_frame]
@[simp] theorem acceptStaged_errCode : (acceptStaged s).errCode = s.errCode := by rw [acceptStaged_frame]
@[simp] theorem acceptStaged_errDetail : (acceptStaged s).errDetail = s.errDetail := by rw [acceptStaged_frame]
@[simp] theorem acceptStaged_stage : (acceptStaged s).stage = s.stage := by rw [acceptStaged_frame]
@[simp] theorem acceptStaged_stageCnt : (acceptStaged s).stageCnt = s.stageCnt := by rw [acceptStaged_frame]
@[simp] theorem acceptStaged_cfg : (acceptStaged s).cfg = s.cfg := by rw [acceptStaged_frame]

end AcceptFrame

/-- What an instruction writes over the prologue when it raises nothing. -/
def writes (i : Instr) (s : State) : State :=
  match i with
  | .idEncode id => setRaw (encodeId s.cfg id) s
  | .idDecode raw => setId (decodeId s.cfg raw) s
  | .idCheck id => setValid (idValid id) s
  | .framePack id n p => setFrame (packFrame s.cfg id n p) s
  | .frameUnpack w => unpackInto w s
  | .frameCheck w => setValid (frameValid (unpackFrame s.cfg w).id (unpackFrame s.cfg w).len) s
  | .txPrep id n p => prepareSend id n p s
  | .rxPush b n => stageChunk b n s
  | .rxAccept _ => releaseStage (acceptStaged s)
  | .filterGen id => setFilter id s
  | .nop | .reservedB | .reservedC | .reservedD | .reservedE | .reservedF => s

/-- The outcome of an instruction that raises the error `e`: it is written over the prologue (R93, R94). -/
def raised (e : BitVec 2 × BitVec 3) (s : State) : State := setError e.1 e.2 (prologue s)

/-- The meanings' checks are the conditions of the cause table, in its order. -/
theorem after_eq (i : Instr) (s : State) :
    after i s = if errorOf i s = (0, 0) then writes i (prologue s) else raised (errorOf i s) s := by
  cases i with
  | framePack id n p => simp only [after, errorOf, payloadTooLong_iff]; split <;> rfl
  | txPrep id n p =>
    cases hid : idValid id with
    | false => simp only [after, errorOf, hid]; rfl
    | true => simp only [after, errorOf, hid, payloadTooLong_iff]; by_cases hn : 8 < n.toNat <;> simp [hn] <;> rfl
  | rxPush b n => simp only [after, errorOf, chunkTooLong_iff]; split <;> rfl
  | rxAccept cap => simp only [after, errorOf, sinkTooSmall_iff]; split <;> rfl
  | filterGen id => cases hid : idValid id <;> simp only [after, errorOf, hid] <;> rfl
  | _ => rfl

theorem after_of_noError {i : Instr} {s : State} (h : errorOf i s = (0, 0)) : after i s = writes i (prologue s) := by
  rw [after_eq, if_pos h]

theorem after_of_error {i : Instr} {s : State} (h : errorOf i s ≠ (0, 0)) : after i s = raised (errorOf i s) s := by
  rw [after_eq, if_neg h]

end Sys2Proof.Machine
end

section
/-! PROOFS. Statements over all instructions: the error of each (R95, R99), the registers it leaves alone (R18, R6), what
running it again does (R44), and what its behaviour depends on (R34). -/

namespace Sys2Proof.Machine

/-! ### Errors -/

@[simp] theorem writes_errCode (i : Instr) (s : State) : (writes i s).errCode = s.errCode := by
  cases i <;> simp [writes]

@[simp] theorem writes_errDetail (i : Instr) (s : State) : (writes i s).errDetail = s.errDetail := by
  cases i <;> simp [writes]

/-- The prologue's cleared fields are the error of an instruction that raises nothing. -/
theorem after_error (i : Instr) (s : State) : ((after i s).errCode, (after i s).errDetail) = errorOf i s := by
  by_cases h : errorOf i s = (0, 0)
  · simp [after_of_noError h, h]
  · rw [after_of_error h]
    rfl

/-- Settles O48: every instruction completes, in the error fields of the table. -/
theorem errorsFollowTheCauseTable : Obligations.ErrorsFollowTheCauseTable :=
  fun i s => ⟨after i s, exec_eq i s, after_error i s⟩

/-- Settles O49: an instruction that ends with an error has raised it, and a raised error is written over the prologue
alone. -/
theorem errorsArePrecise : Obligations.ErrorsArePrecise := by
  intro i s t ht herr
  obtain rfl := eq_after_of_exec ht
  have hraises : errorOf i s ≠ (0, 0) := by
    intro h
    exact herr (congrArg Prod.fst ((after_error i s).trans h))
  rw [after_of_error hraises]
  rfl

/-! ### Registers that are left alone -/

@[simp] theorem writes_cfg (i : Instr) (s : State) : (writes i s).cfg = s.cfg := by
  cases i <;> simp [writes]

@[simp] theorem after_cfg (i : Instr) (s : State) : (after i s).cfg = s.cfg := by
  rw [after_eq]
  split
  · simp
  · rfl

/-- Settles O11, by the three things a step can do; a reset keeps the parameters as configured. -/
theorem noStepChangesAParameter : Obligations.NoStepChangesAParameter := by
  intro s t ht
  obtain ⟨-, h⟩ | ⟨rest, -, h⟩ | ⟨c, rest, -, h⟩ := step_cases s
  all_goals
    rw [h] at ht
    obtain rfl := Host.Outcome.next.inj ht
  · rfl
  · rfl
  · exact after_cfg _ _

/-- Settles O51: a raised error writes none of the twelve registers, and the writes of an instruction that raises
nothing name their registers. -/
theorem onlyListedCommandsWriteARegister : Obligations.OnlyListedCommandsWriteARegister := by
  intro i s t ht
  obtain rfl := eq_after_of_exec ht
  rw [after_eq]
  split
  · cases i <;> simp [writes, opcode]
  · simp [raised]

/-! ### Running an instruction again -/

/-- The cause table reads of the state the staged count alone (R95). -/
theorem errorOf_congr (i : Instr) {s t : State} (h : s.stageCnt = t.stageCnt) : errorOf i s = errorOf i t := by
  cases i with
  | rxPush b n => simp only [errorOf, h]
  | _ => rfl

/-- Only RX_PUSH and RX_ACCEPT move the staged count (R18). -/
theorem after_stageCnt_of_not_rx {i : Instr} (s : State) (hpush : opcode i ≠ 0x8) (haccept : opcode i ≠ 0x9) :
    (after i s).stageCnt = s.stageCnt := by
  obtain ⟨-, -, -, -, -, -, -, -, -, -, -, hwriter⟩ :=
    onlyListedCommandsWriteARegister i s (after i s) (exec_eq i s)
  by_contra hchanged
  have hlisted := hwriter hchanged
  simp only [List.mem_cons, List.not_mem_nil, or_false] at hlisted
  exact hlisted.elim hpush haccept

/-- The other commands write what their ports say, whatever the registers hold. -/
theorem writes_writes_of_not_rx {i : Instr} (s : State) (hpush : opcode i ≠ 0x8) (haccept : opcode i ≠ 0x9) :
    writes i (prologue (writes i (prologue s))) = writes i (prologue s) := by
  cases i with
  | rxPush b n => exact absurd rfl hpush
  | rxAccept cap => exact absurd rfl haccept
  | _ => simp only [writes, setRaw, setId, setValid, setFrame, unpackInto, prepareSend, setFilter, prologue]

/-- Settles O52: the second run meets the staged count of the first, so it raises the same error or makes the same
writes. -/
theorem otherCommandsAreIdempotent : Obligations.OtherCommandsAreIdempotent := by
  intro i s t hpush haccept ht
  obtain rfl := eq_after_of_exec ht
  have herr : errorOf i (after i s) = errorOf i s := errorOf_congr i (after_stageCnt_of_not_rx s hpush haccept)
  rw [exec_eq, after_eq i (after i s), herr]
  split
  case isTrue h => rw [after_of_noError h, writes_writes_of_not_rx s hpush haccept]
  case isFalse h => rw [after_of_error h]; rfl

/-! ### What a command's behaviour depends on -/

/-- What an acceptance writes is read from STAGE, STAGE_CNT and the parameters; R_DATA is written only after OK. -/
theorem acceptStaged_of_sameInputs {s s' : State} (h : SameInputs s s') :
    (acceptStaged s).rId = (acceptStaged s').rId ∧ (acceptStaged s).rLen = (acceptStaged s').rLen ∧
      (acceptStaged s).rBe = (acceptStaged s').rBe ∧ (acceptStaged s).rxStatus = (acceptStaged s').rxStatus ∧
      ((acceptStaged s).rData = (acceptStaged s').rData ∨
        (acceptStaged s).rData = s.rData ∧ (acceptStaged s').rData = s'.rData) := by
  obtain ⟨hstage, hcnt, hcfg⟩ := h
  have hpartial : partialId s = partialId s' := by simp only [partialId, hstage, hcnt, hcfg]
  simp only [acceptStaged, hstage, hcnt, hcfg]
  split
  · simp [hpartial]
  · split <;> simp

/-- Settles O53: both runs raise the same error or make the same writes, each register written from the shared inputs. -/
theorem behaviourDependsOnPortsAndStageOnly : Obligations.BehaviourDependsOnPortsAndStageOnly := by
  intro i s s' t t' hsame ht ht'
  obtain rfl := eq_after_of_exec ht
  obtain rfl := eq_after_of_exec ht'
  obtain ⟨hstage, hcnt, hcfg⟩ := hsame
  rw [after_eq i s, after_eq i s', ← errorOf_congr i hcnt]
  split
  · cases i with
    | rxAccept cap =>
      have hsame : SameInputs (prologue s) (prologue s') := ⟨hstage, hcnt, hcfg⟩
      obtain ⟨hid, hlen, hbe, hstatus, hdata⟩ := acceptStaged_of_sameInputs hsame
      simpa [SameInputs, writes, hstage, hcfg, hid, hlen, hbe, hstatus] using hdata
    | _ => simp [SameInputs, writes, hstage, hcnt, hcfg]
  · simp [SameInputs, raised, hstage, hcnt, hcfg]

end Sys2Proof.Machine
end

section
/-! PROOFS. The codec both ways: the raw word and the identifier (R65, R66), the word and its bytes (R38), the frame and
its image (R73, R74), and the filter pair of a valid id (R87). -/

namespace Sys2Proof.Machine

/-! ### The raw word and the identifier -/

/-- The value field and the three flags are all the bits of a raw word, their positions being 31, 30, 29 (R6, R36). -/
theorem rawWord_ext (l : FlagLayout) {v w : Word} (hvalue : ∀ j < 29, v.getLsbD j = w.getLsbD j)
    (heff : v.getLsbD (effPos l) = w.getLsbD (effPos l)) (hrtr : v.getLsbD (rtrPos l) = w.getLsbD (rtrPos l))
    (herr : v.getLsbD (errPos l) = w.getLsbD (errPos l)) : v = w := by
  apply BitVec.eq_of_getLsbD_eq
  intro j hj
  by_cases hlow : j < 29
  · exact hvalue j hlow
  · obtain ⟨_, _, _, _, _, _⟩ := flagPositions l
    obtain rfl | rfl | rfl : j = effPos l ∨ j = rtrPos l ∨ j = errPos l := by omega
    · exact heff
    · exact hrtr
    · exact herr

theorem encodeId_decodeId (cfg : Config) (w : Word) : encodeId cfg (decodeId cfg w) = w := by
  apply rawWord_ext cfg.flags
  · intro j hj
    rw [encodeId_getLsbD_of_lt cfg _ hj, decodeId_value_getLsbD, decide_eq_true hj, Bool.and_true]
  · exact encodeId_getLsbD_effPos cfg _
  · exact encodeId_getLsbD_rtrPos cfg _
  · exact encodeId_getLsbD_errPos cfg _

/-- Of an identifier only value bits 31:29 are lost on the way through the raw word (R59, R60). -/
theorem decodeId_encodeId (cfg : Config) (id : CanId) :
    decodeId cfg (encodeId cfg id) = { id with value := id.value &&& valueMask } := by
  have hvalue : encodeId cfg id &&& valueMask = id.value &&& valueMask := by
    apply BitVec.eq_of_getLsbD_eq
    intro j _
    rw [BitVec.getLsbD_and, BitVec.getLsbD_and, valueMask_getLsbD]
    by_cases hj : j < 29
    · rw [encodeId_getLsbD_of_lt cfg id hj]
    · simp [hj]
  rw [decodeId, hvalue, encodeId_getLsbD_effPos, encodeId_getLsbD_rtrPos, encodeId_getLsbD_errPos]

theorem decodeId_encodeId_of_le (cfg : Config) {id : CanId} (h : id.value.toNat ≤ 0x1FFFFFFF) :
    decodeId cfg (encodeId cfg id) = id := by
  rw [decodeId_encodeId, value_masked h]

/-- Settles O20: the mask keeps a value within 29 bits and reduces a larger one, which no addressing mode holds. -/
theorem rawWordAndIdentifierRoundTrip : Obligations.RawWordAndIdentifierRoundTrip := by
  refine fun cfg => ⟨encodeId_decodeId cfg, fun id hfits => ?_, fun id hlarge => ⟨?_, ?_⟩⟩
  · rw [decodeId_encodeId_of_le cfg hfits]
    exact ⟨rfl, rfl⟩
  · rw [← Bool.not_eq_true]
    intro hvalid
    obtain ⟨-, hfits⟩ := idValid_bounds hvalid
    omega
  · rw [decodeId_encodeId, masked_toNat]

/-! ### The word and its bytes -/

/-- Writing back the word of four bytes gives the bytes, in either byte order. -/
theorem bytes32_word32 (cfg : Config) (b : Vector Byte 4) : bytes32 cfg (word32 cfg b) = b := by
  apply Vector.ext
  intro i hi
  apply BitVec.eq_of_getLsbD_eq
  intro j hj
  have hindex : i = 0 ∨ i = 1 ∨ i = 2 ∨ i = 3 := by omega
  cases horder : cfg.hostLE with
  | false =>
    rw [bytes32_getLsbD_be cfg _ horder i j hi hj]
    obtain ⟨h3, h2, h1, h0⟩ := le32_getLsbD b[3] b[2] b[1] b[0] j hj
    obtain rfl | rfl | rfl | rfl := hindex <;> simpa [word32, horder, be32_eq_le32]
  | true =>
    rw [bytes32_getLsbD_le cfg _ horder i j hi hj]
    obtain ⟨h0, h1, h2, h3⟩ := le32_getLsbD b[0] b[1] b[2] b[3] j hj
    obtain rfl | rfl | rfl | rfl := hindex <;> simpa [word32, horder]

/-- Settles O22, from the bits of each byte in each order. -/
theorem identifierBytesFollowHostOrder : Obligations.IdentifierBytesFollowHostOrder := fun cfg =>
  ⟨word32_bytes32 cfg, bytes32_word32 cfg, fun w i j hj =>
    ⟨fun hle => bytes32_getLsbD_le cfg w hle i j i.isLt hj, fun hbe => bytes32_getLsbD_be cfg w hbe i j i.isLt hj⟩⟩

/-! ### The frame and its image -/

/-- The data slot of a packed image: the payload in front, zeros behind it (R41). -/
def paddedSlot (n : Word) (p : Slot) : Slot := Vector.ofFn (slotByte n p)

theorem paddedSlot_getElem (n : Word) (p : Slot) (i : Fin 8) :
    (paddedSlot n p)[i] = if i.val < n.toNat then p[i] else 0 :=
  Vector.getElem_ofFn i.isLt

/-- Unpacking a packed image: the identifier comes through its raw word, the length through its byte (R73). -/
theorem unpackFrame_packFrame (cfg : Config) {id : CanId} (n : Word) (p : Slot) (h : id.value.toNat ≤ 0x1FFFFFFF) :
    unpackFrame cfg (packFrame cfg id n p) = ⟨id, n.setWidth 8, paddedSlot n p⟩ := by
  have hid : memRead (packFrame cfg id n p) 0 4 (by decide) = bytes32 cfg (encodeId cfg id) := by
    apply Vector.ext
    intro i hi
    simp only [memRead_getElem, zero_add, packFrame_idByte cfg id n p i hi]
  have hdata : memRead (packFrame cfg id n p) 8 8 (by decide) = paddedSlot n p := by
    apply Vector.ext
    intro i hi
    rw [memRead_getElem, packFrame_slotByte cfg id n p i hi, paddedSlot, Vector.getElem_ofFn]
  rw [unpackFrame, hid, hdata, packFrame_lenByte, word32_bytes32, decodeId_encodeId_of_le cfg h]

/-- Equality of frames looks at no data byte past the length, so not at the padding (R73). -/
theorem sameFrame_paddedSlot (id : CanId) {n : Word} (p : Slot) (hn : n.toNat ≤ 8) :
    sameFrame ⟨id, n.setWidth 8, paddedSlot n p⟩ ⟨id, n.setWidth 8, p⟩ = true := by
  have hlen : (n.setWidth 8).toNat = n.toNat := by
    rw [BitVec.toNat_setWidth, Nat.mod_eq_of_lt (by omega)]
  simp only [sameFrame, beq_self_eq_true, Bool.true_and, List.all_eq_true, Bool.or_eq_true, decide_eq_true_eq,
    beq_iff_eq, hlen, paddedSlot_getElem]
  intro i _
  by_cases hi : i.val < n.toNat
  · exact .inr (if_pos hi)
  · exact .inl (Nat.not_lt.mp hi)

/-- Settles O30: FRAME_PACK leaves the packed image in R_FRAME, and the registers of FRAME_UNPACK are its unpacking. -/
theorem packThenUnpackGivesTheFrameBack : Obligations.PackThenUnpackGivesTheFrameBack := by
  intro id n p s hvalue hn
  obtain ⟨hpack, -⟩ := framePackWritesTheImage id n p s
  refine ⟨_, _, hpack hn, exec_eq _ _, ?_⟩
  have hunpack := unpackFrame_packFrame s.cfg n p hvalue
  simp only [after, unpackInto_rId, unpackInto_rLen, unpackInto_rData, prologue_cfg, hunpack]
  exact ⟨trivial, by rw [BitVec.toNat_setWidth, Nat.mod_eq_of_lt (by omega)], paddedSlot_getElem n p,
    sameFrame_paddedSlot id p hn⟩

/-- An image is its identifier bytes, its length byte, three padding bytes and its slot (R37 to R41). -/
theorem image_ext {v w : Image} (hid : ∀ i (_ : i < 4), v[i] = w[i]) (hlen : v[4] = w[4])
    (hpad : v[5] = w[5] ∧ v[6] = w[6] ∧ v[7] = w[7]) (hslot : ∀ i (_ : i < 8), v[8 + i] = w[8 + i]) : v = w := by
  obtain ⟨h5, h6, h7⟩ := hpad
  apply Vector.ext
  intro k hk
  by_cases hlow : k < 4
  · exact hid k hlow
  · by_cases hhigh : 8 ≤ k
    · obtain ⟨i, rfl⟩ := Nat.exists_eq_add_of_le hhigh
      exact hslot i (by omega)
    · obtain rfl | rfl | rfl | rfl : k = 4 ∨ k = 5 ∨ k = 6 ∨ k = 7 := by omega
      · exact hlen
      · exact h5
      · exact h6
      · exact h7

/-- Repacked identifier bytes come back through the raw word, whose flags and value are all of its bits (R65). -/
theorem repack_idByte (cfg : Config) (w : Image) (n : Word) (p : Slot) (i : Nat) (hi : i < 4) :
    (packFrame cfg (unpackFrame cfg w).id n p)[i] = w[i] := by
  rw [packFrame_idByte cfg _ n p i hi]
  simp only [unpackFrame, encodeId_decodeId, bytes32_word32, memRead_getElem, zero_add]

theorem repack_lenByte (cfg : Config) (w : Image) (id : CanId) (p : Slot) :
    (packFrame cfg id ((unpackFrame cfg w).len.setWidth 32) p)[4] = w[4] := by
  rw [packFrame_lenByte]
  exact BitVec.setWidth_setWidth_of_le _ (by decide)

theorem repack_slotByte (cfg : Config) (w : Image) (id : CanId) (i : Nat) (hi : i < 8) :
    (packFrame cfg id ((unpackFrame cfg w).len.setWidth 32) (unpackFrame cfg w).data)[8 + i] =
      if i < w[4].toNat then w[8 + i] else 0 := by
  have hdata : (unpackFrame cfg w).data[i] = w[8 + i] := memRead_getElem w 8 8 (by decide) i hi
  have hlen : ((unpackFrame cfg w).len.setWidth 32).toNat = w[4].toNat := by
    rw [BitVec.toNat_setWidth_of_le (by decide)]
    rfl
  rw [packFrame_slotByte cfg _ _ _ i hi, slotByte, hlen]
  exact if_congr Iff.rfl hdata rfl

/-- Settles O31: packing writes zero over the padding and the tail, and every other byte as it was. -/
theorem repackedImageIsTheSameWhenClean : Obligations.RepackedImageIsTheSameWhenClean := by
  intro cfg w _
  obtain ⟨h5, h6, h7⟩ :=
    packFrame_padding cfg (unpackFrame cfg w).id ((unpackFrame cfg w).len.setWidth 32) (unpackFrame cfg w).data
  have hslot := repack_slotByte cfg w (unpackFrame cfg w).id
  constructor
  · intro hsame
    simp only [hsame] at h5 h6 h7 hslot
    exact ⟨h5, h6, h7, fun i hi => (hslot i i.isLt).trans (if_neg (Nat.not_lt.mpr hi))⟩
  · rintro ⟨w5, w6, w7, htail⟩
    refine image_ext (repack_idByte cfg w _ _) (repack_lenByte cfg w _ _)
      ⟨h5.trans w5.symm, h6.trans w6.symm, h7.trans w7.symm⟩ fun i hi => ?_
    rw [hslot i hi]
    split
    case isTrue => rfl
    case isFalse hpast => exact (htail ⟨i, hi⟩ (Nat.not_lt.mp hpast)).symm

/-- Only the first four bytes of an image show the identifier (R67). -/
theorem packFrame_getElem_of_ge (cfg : Config) (id id' : CanId) (n : Word) (p : Slot) (k : Fin 16) (hk : 4 ≤ k.val) :
    (packFrame cfg id n p)[k] = (packFrame cfg id' n p)[k] := by
  simp [packFrame, imageByte, Nat.not_lt.mpr hk]

/-- Settles O29: validity does not read RTR, and RTR stands in the identifier's bytes. -/
theorem rtrDoesNotTouchLengthOrPayload : Obligations.RtrDoesNotTouchLengthOrPayload :=
  fun cfg id n p _ _ => ⟨rfl, fun _ k hk => packFrame_getElem_of_ge cfg _ id n p k hk⟩

/-- Settles O21: the value fits the 29 bits of the raw word, but not the standard mode. -/
theorem standardValuesAreNotTruncated : Obligations.StandardValuesAreNotTruncated := by
  intro id n p s hstandard hlarge hfits
  have hinvalid : idValid id = false := by
    simp [idValid_eq, hstandard, hlarge]
  obtain ⟨-, hsend, -⟩ := txPrepChecksThenPreparesTheImage id n p s
  obtain ⟨-, hfilter⟩ := filterGenWritesThePair id s
  have hdecode := congrArg CanId.value (decodeId_encodeId_of_le s.cfg hfits)
  have hunpack := congrArg (fun f => f.id.value) (unpackFrame_packFrame s.cfg n p hfits)
  exact ⟨hdecode, fun _ => hunpack, hdecode, hsend hinvalid, hfilter hinvalid⟩

/-! ### The filter pair -/

/-- Settles O45: a valid value reaches no flag position, and the only flag of the word that the mask lacks is ERR, which
is clear. -/
theorem filterMaskCoversTheFilterId : Obligations.FilterMaskCoversTheFilterId := by
  intro cfg id hvalid
  obtain ⟨herr, hvalue⟩ := idValid_bounds hvalid
  obtain ⟨⟨heffLow, heffHigh⟩, ⟨hrtrLow, hrtrHigh⟩, ⟨herrLow, herrHigh⟩, -, heffErr, hrtrErr⟩ := flagPositions cfg.flags
  have hmaskEff : (filterMask cfg id).getLsbD (effPos cfg.flags) = true := by
    simp [filterMask_getLsbD cfg id _ heffHigh]
  have hmaskRtr : (filterMask cfg id).getLsbD (rtrPos cfg.flags) = true := by
    simp [filterMask_getLsbD cfg id _ hrtrHigh]
  have hmaskErr : (filterMask cfg id).getLsbD (errPos cfg.flags) = false := by
    simp [filterMask_getLsbD cfg id _ herrHigh, value_high_bits hvalue _ herrLow, heffErr.symm, hrtrErr.symm]
  have hidErr : (filterId cfg id).getLsbD (errPos cfg.flags) = false :=
    (encodeId_getLsbD_errPos cfg id).trans herr
  have hmaskValue : ∀ j < 29, (filterMask cfg id).getLsbD j = id.value.getLsbD j := by
    intro j hj
    simp [filterMask_getLsbD cfg id j (by omega), show j ≠ effPos cfg.flags by omega,
      show j ≠ rtrPos cfg.flags by omega]
  refine ⟨hmaskEff, hmaskRtr, hmaskErr, hidErr, hmaskValue, rawWord_ext cfg.flags (fun j hj => ?_) ?_ ?_ ?_⟩
  · rw [BitVec.getLsbD_and, hmaskValue j hj, filterId, encodeId_getLsbD_of_lt cfg id hj, Bool.and_self]
  · rw [BitVec.getLsbD_and, hmaskEff, Bool.and_true]
  · rw [BitVec.getLsbD_and, hmaskRtr, Bool.and_true]
  · rw [BitVec.getLsbD_and, hidErr, Bool.false_and]

end Sys2Proof.Machine
end

section
/-! PROOFS. The outcomes of RX_ACCEPT that deliver no frame (R79, R81), the release of the stage (R83) and the sink copy
(R84). -/

namespace Sys2Proof.Machine

/-! ### A small sink, and no whole image -/

theorem after_rxAccept_of_lt {cap : Word} (s : State) (hcap : cap.toNat < 8) :
    after (.rxAccept cap) s = setError 1 3 (prologue s) :=
  if_pos ((sinkTooSmall_iff cap).mpr hcap)

/-- Settles O34: the check of the sink comes before any look at the stage. -/
theorem rxAcceptRejectsASmallSink : Obligations.RxAcceptRejectsASmallSink := by
  intro cap s hcap
  rw [exec_eq, after_rxAccept_of_lt s hcap]
  rfl

theorem after_rxAccept_of_partial {cap : Word} {s : State} (hcap : 8 ≤ cap.toNat) (hcnt : s.stageCnt.toNat < 16) :
    after (.rxAccept cap) s = releaseStage (acceptNoData (prologue s)) := by
  rw [after_rxAccept_of_le s hcap, acceptStaged, prologue_stageCnt, if_pos hcnt]

/-- Settles O37: `accept_no_data` and then the release. -/
theorem rxAcceptReportsNoData : Obligations.RxAcceptReportsNoData := by
  intro cap s hcap hcnt
  refine ⟨_, exec_eq _ s, ?_⟩
  rw [after_rxAccept_of_partial hcap hcnt]
  rfl

/-- Settles O38, by whether the four identifier bytes are staged. -/
theorem noDataReportsThePartialIdentifier : Obligations.NoDataReportsThePartialIdentifier := by
  intro cap s hcap hcnt
  refine ⟨_, exec_eq _ s, ?_⟩
  rw [after_rxAccept_of_partial hcap hcnt, releaseStage_rId, acceptNoData_rId]
  constructor
  · intro hfour
    rw [partialId, prologue_stageCnt, if_pos hfour, memRead_zero_four]
    rfl
  · intro hfew
    rw [partialId, prologue_stageCnt, if_neg (Nat.not_le.mpr hfew)]
    rfl

/-- The whole acceptance of a valid frame: `accept_ok` and then the release (R80, R83). -/
theorem after_rxAccept_of_valid {cap : Word} {s : State} (hcap : 8 ≤ cap.toNat) (hcnt : s.stageCnt = 16)
    (hvalid : frameValid (unpackFrame s.cfg s.stage).id (unpackFrame s.cfg s.stage).len = true) :
    after (.rxAccept cap) s = releaseStage (acceptOk (unpackFrame s.cfg s.stage) (prologue s)) := by
  rw [after_rxAccept_of_le s hcap, acceptStaged_of_valid (s := prologue s) hcnt hvalid]
  rfl

/-! ### The release -/

/-- Settles O39: an emptied stage holds no whole image, whatever bytes are left in it. -/
theorem acceptReleasesTheStage : Obligations.AcceptReleasesTheStage := by
  intro cap cap' s t hcap hcap' ht
  obtain rfl := eq_after_of_exec ht
  have hcnt : (after (.rxAccept cap) s).stageCnt = 0 := by
    rw [after_rxAccept_of_le s hcap, releaseStage_stageCnt]
  have hempty : (after (.rxAccept cap) s).stageCnt.toNat < 16 := by
    rw [hcnt]; decide
  refine ⟨hcnt, ?_, _, exec_eq _ _, ?_⟩
  · rw [after_rxAccept_of_le s hcap, releaseStage_stage, acceptStaged_stage, prologue_stage]
  · rw [after_rxAccept_of_partial hcap' hempty]
    rfl

/-! ### The sink copy -/

/-- The byte enables of a legal length are its prefix of the slot (R80). -/
theorem byteEnable_getLsbD {len : BitVec 8} (hlen : len.toNat ≤ 8) (i : Nat) :
    (byteEnable len).getLsbD i = decide (i < len.toNat) := by
  rw [byteEnable_eq, BitVec.getLsbD_ofNat, Nat.testBit_two_pow_sub_one, Bool.and_eq_right_iff_imp]
  simp only [decide_eq_true_eq]
  omega

theorem sinkCopy_length (s : State) (sink : List Byte) : (sinkCopy s sink).length = sink.length := by
  rw [sinkCopy, List.length_map, List.length_zipIdx]

theorem sinkCopy_getElem (s : State) (sink : List Byte) (i : Nat) (hi : i < (sinkCopy s sink).length) :
    (sinkCopy s sink)[i] =
      if h : i < 8 then if s.rBe.getLsbD i then s.rData[i] else sink[i]'(sinkCopy_length s sink ▸ hi)
      else sink[i]'(sinkCopy_length s sink ▸ hi) := by
  simp [sinkCopy]

theorem sinkCopy_of_noByteEnable {s : State} (hbe : s.rBe = 0) (sink : List Byte) : sinkCopy s sink = sink := by
  refine List.ext_getElem (sinkCopy_length s sink) fun i _ _ => ?_
  simp [sinkCopy_getElem, hbe]

/-- With the byte enables of a legal length the copy is the slot's first bytes in front of the sink's rest (R84). -/
theorem sinkCopy_of_byteEnable {s : State} (hbe : s.rBe = byteEnable s.rLen) (hlen : s.rLen.toNat ≤ 8)
    {sink : List Byte} (hsink : 8 ≤ sink.length) :
    sinkCopy s sink = s.rData.toList.take s.rLen.toNat ++ sink.drop s.rLen.toNat := by
  have hprefix : (s.rData.toList.take s.rLen.toNat).length = s.rLen.toNat := by
    rw [List.length_take, Vector.length_toList, Nat.min_eq_left hlen]
  apply List.ext_getElem
  · rw [sinkCopy_length, List.length_append, hprefix, List.length_drop]
    omega
  · intro i _ _
    rw [sinkCopy_getElem, hbe, byteEnable_getLsbD hlen, List.getElem_append]
    by_cases hi : i < s.rLen.toNat
    · simp [hi, show i < 8 by omega]
    · simp [hi, Nat.add_sub_cancel' (Nat.not_lt.mp hi), hlen]

/-- Settles O40: OK comes from a valid frame, whose length is legal; the other two outcomes enable no byte. -/
theorem sinkReceivesExactlyTheDeclaredBytes : Obligations.SinkReceivesExactlyTheDeclaredBytes := by
  intro cap s t sink hcap hsink ht
  obtain rfl := eq_after_of_exec ht
  rw [after_rxAccept_of_le s hcap]
  obtain ⟨-, h⟩ | ⟨-, -, h⟩ | ⟨-, hvalid, h⟩ := acceptStaged_cases (prologue s)
  · rw [h]
    exact ⟨fun hok => absurd hok (by simp), fun _ => sinkCopy_of_noByteEnable (by simp) sink⟩
  · rw [h]
    exact ⟨fun hok => absurd hok (by simp), fun _ => sinkCopy_of_noByteEnable (by simp) sink⟩
  · obtain ⟨-, hlen⟩ := (frameValidityIsIdAndLength _ _).mp hvalid
    rw [h]
    exact ⟨fun _ => ⟨hlen, sinkCopy_of_byteEnable rfl hlen hsink⟩, fun hnot => absurd rfl hnot⟩

end Sys2Proof.Machine
end

section
/-! PROOFS. Runs: instructions issued one after another (R45), and the host's SEND and TRY_RECEIVE as such runs (R55). -/

namespace Sys2Proof.Machine

/-! ### Issue order -/

/-- The state in which a list of instructions ends. -/
def afterAll (is : List Instr) (s : State) : State := is.foldl (fun t i => after i t) s

@[simp] theorem afterAll_nil (s : State) : afterAll [] s = s := rfl

@[simp] theorem afterAll_cons (i : Instr) (is : List Instr) (s : State) :
    afterAll (i :: is) s = afterAll is (after i s) := rfl

theorem afterAll_append (is js : List Instr) (s : State) : afterAll (is ++ js) s = afterAll js (afterAll is s) :=
  List.foldl_append

theorem acceptStaged_setPending (s : State) (q : List HostAction) :
    acceptStaged { s with pending := q } = { acceptStaged s with pending := q } := by
  unfold acceptStaged
  split
  · rfl
  · split <;> rfl

theorem writes_setPending (i : Instr) (s : State) (q : List HostAction) :
    writes i { s with pending := q } = { writes i s with pending := q } := by
  cases i with
  | rxAccept cap => simp only [writes, acceptStaged_setPending, releaseStage]
  | _ => rfl

/-- No instruction reads or writes the host's coming actions. -/
theorem after_setPending (i : Instr) (s : State) (q : List HostAction) :
    after i { s with pending := q } = { after i s with pending := q } := by
  have herr : errorOf i { s with pending := q } = errorOf i s := errorOf_congr i rfl
  by_cases h : errorOf i s = (0, 0)
  · rw [after_of_noError h, after_of_noError (herr.trans h)]
    exact writes_setPending i (prologue s) q
  · rw [after_of_error h, after_of_error (by rwa [herr]), herr]
    rfl

/-- Running an issued list off the front of the port leaves what is issued behind it to run in the state it leaves. -/
theorem run_issue_append (is js : List Instr) (s : State) (k : Nat) :
    Host.Core.run Sys2Proof.core (is.length + k) { s with pending := issue (is ++ js) } =
      Host.Core.run Sys2Proof.core k { afterAll is s with pending := issue js } := by
  induction is generalizing s with
  | nil => simp
  | cons i is ih =>
    rw [List.length_cons, Nat.add_right_comm, List.cons_append, run_issue_cons, after_setPending, ih, afterAll_cons]

theorem run_issue (is : List Instr) (s : State) :
    Host.Core.run Sys2Proof.core is.length { s with pending := issue is } =
      .next { afterAll is s with pending := [] } := by
  have h := run_issue_append is [] s 0
  rwa [List.append_nil] at h

/-- Settles O12, by the run of the first list off the front of the port. -/
theorem commandsTakeEffectInIssueOrder : Obligations.CommandsTakeEffectInIssueOrder :=
  fun is js s => ⟨_, run_issue is s, run_issue_append is js s js.length⟩

/-! ### SEND -/

/-- Settles O41: of the three outcomes of TX_PREP only the one past both checks strobes, with the packed frame. -/
theorem sendWritesOnlyCheckedFrames : Obligations.SendWritesOnlyCheckedFrames := by
  intro id n p s
  refine ⟨_, run_issue [.txPrep id n p] s, ?_⟩
  simp only [afterAll_cons, afterAll_nil]
  cases hid : idValid id with
  | false =>
    rw [after_txPrep_of_invalid n p s hid]
    simp [socketImage]
  | true =>
    by_cases hn : n.toNat ≤ 8
    · rw [after_txPrep_of_le p s hid hn]
      simp [socketImage, hn]
    · rw [after_txPrep_of_gt p s hid (Nat.not_le.mp hn)]
      simp [socketImage, hn]

/-! ### TRY_RECEIVE -/

/-- The bytes that are staged, in order: those of STAGE below STAGE_CNT (R31). -/
def stagedBytes (s : State) : List Byte := s.stage.toList.take s.stageCnt.toNat

theorem stagedBytes_length {s : State} (h : StageCountLegal s) : (stagedBytes s).length = s.stageCnt.toNat := by
  rw [stagedBytes, List.length_take, Vector.length_toList, Nat.min_eq_left h]

theorem stagedBytes_of_full {s : State} (h : s.stageCnt = 16) : stagedBytes s = s.stage.toList := by
  rw [stagedBytes, h]
  exact List.take_of_length_le (by rw [Vector.length_toList]; decide)

/-- The pushes that a list of socket reads issues (R55). -/
def pushes (reads : List (Image × BitVec 5)) : List Instr := reads.map fun r => .rxPush r.1 r.2

/-- A push that fits appends its chunk to the staged bytes (R78). -/
theorem stagedBytes_rxPush (b : Image) {n : BitVec 5} {s : State} (h : s.stageCnt.toNat + n.toNat ≤ 16) :
    stagedBytes (after (.rxPush b n) s) = stagedBytes s ++ b.toList.take n.toNat := by
  have hcnt : (stageChunk b n (prologue s)).stageCnt.toNat = s.stageCnt.toNat + n.toNat :=
    stageChunk_stageCnt_toNat b h
  have hold : (stagedBytes s).length = s.stageCnt.toNat := stagedBytes_length (by omega)
  have hnew : (stagedBytes (stageChunk b n (prologue s))).length = s.stageCnt.toNat + n.toNat := by
    rw [stagedBytes_length (by omega), hcnt]
  rw [after_rxPush_of_le b h]
  apply List.ext_getElem
  · rw [hnew, List.length_append, hold, List.length_take, Vector.length_toList]
    omega
  · intro k hk _
    rw [hnew] at hk
    have hbyte := stageChunk_stage_getElem b n (prologue s) ⟨k, by omega⟩
    simp only [prologue_stageCnt, prologue_stage, Fin.getElem_fin, hk, and_true] at hbyte
    simp only [List.getElem_append, hold]
    simp only [stagedBytes, List.getElem_take, Vector.getElem_toList, hbyte]
    by_cases hkept : k < s.stageCnt.toNat
    · simp [hkept]
    · simp [hkept, Nat.not_lt.mp hkept]

theorem stageCnt_rxPush (b : Image) {n : BitVec 5} {s : State} (h : s.stageCnt.toNat + n.toNat ≤ 16) :
    (after (.rxPush b n) s).stageCnt.toNat = s.stageCnt.toNat + n.toNat := by
  rw [after_rxPush_of_le b h]
  exact stageChunk_stageCnt_toNat b h

theorem delivered_cons_length (r : Image × BitVec 5) (reads : List (Image × BitVec 5)) (hr : r.2.toNat ≤ 16) :
    (delivered (r :: reads)).length = r.2.toNat + (delivered reads).length := by
  simp [delivered, hr]

/-- However many pushes there are, they stage what the reads delivered, as long as that fits (R78). -/
theorem afterAll_pushes (reads : List (Image × BitVec 5)) (s : State) (hreads : ∀ r ∈ reads, r.2.toNat ≤ 16)
    (hfits : s.stageCnt.toNat + (delivered reads).length ≤ 16) :
    (afterAll (pushes reads) s).stageCnt.toNat = s.stageCnt.toNat + (delivered reads).length ∧
      stagedBytes (afterAll (pushes reads) s) = stagedBytes s ++ delivered reads ∧
      (afterAll (pushes reads) s).cfg = s.cfg := by
  induction reads generalizing s with
  | nil => simp [pushes, delivered]
  | cons r reads ih =>
    obtain ⟨hr, hrest⟩ := List.forall_mem_cons.mp hreads
    rw [delivered_cons_length r reads hr] at hfits ⊢
    have hpush : s.stageCnt.toNat + r.2.toNat ≤ 16 := by omega
    have hcnt := stageCnt_rxPush r.1 hpush
    obtain ⟨hcntAll, hbytesAll, hcfgAll⟩ := ih (after (.rxPush r.1 r.2) s) hrest (by omega)
    simp only [pushes, List.map_cons, afterAll_cons]
    refine ⟨?_, ?_, ?_⟩
    · rw [pushes] at hcntAll
      omega
    · rw [pushes, stagedBytes_rxPush r.1 hpush, List.append_assoc] at hbytesAll
      exact hbytesAll
    · rw [pushes, after_cfg] at hcfgAll
      exact hcfgAll

/-- A whole image delivered into an empty stage stands in STAGE, and STAGE_CNT is 16 (R31, R32). -/
theorem stage_afterAll_pushes {reads : List (Image × BitVec 5)} {s : State} {w : Image} (hempty : s.stageCnt = 0)
    (hreads : ∀ r ∈ reads, r.2.toNat ≤ 16) (hdelivered : delivered reads = w.toList) :
    (afterAll (pushes reads) s).stageCnt = 16 ∧ (afterAll (pushes reads) s).stage = w ∧
      (afterAll (pushes reads) s).cfg = s.cfg := by
  have hcnt0 : s.stageCnt.toNat = 0 := by rw [hempty]; rfl
  have hlen : (delivered reads).length = 16 := by rw [hdelivered, Vector.length_toList]
  have hbytes0 : stagedBytes s = [] := by rw [stagedBytes, hcnt0, List.take_zero]
  obtain ⟨hcnt, hbytes, hcfg⟩ := afterAll_pushes reads s hreads (by omega)
  have hfull : (afterAll (pushes reads) s).stageCnt = 16 := by
    apply BitVec.eq_of_toNat_eq
    rw [hcnt, hcnt0, hlen]
    rfl
  rw [stagedBytes_of_full hfull, hbytes0, List.nil_append, hdelivered] at hbytes
  exact ⟨hfull, Vector.toList_inj.mp hbytes, hcfg⟩

theorem expand_tryReceive (reads : List (Image × BitVec 5)) {cap : Word} (hcap : 8 ≤ cap.toNat) :
    expand (.tryReceive reads cap) = pushes reads ++ [.rxAccept cap] :=
  if_neg (by rw [sinkTooSmall_iff]; omega)

/-- Settles O42: the pushes stage the packed image, by induction over the reads, and RX_ACCEPT then unpacks the frame
that was packed. -/
theorem anyPartialReadsReconstructTheFrame : Obligations.AnyPartialReadsReconstructTheFrame := by
  intro id n p cap reads s hid hn hcap hempty hreads hdelivered
  obtain ⟨-, hvalue⟩ := idValid_bounds hid
  obtain ⟨hfull, hstage, hcfg⟩ := stage_afterAll_pushes hempty hreads hdelivered
  have hlen : (n.setWidth 8).toNat = n.toNat := by rw [BitVec.toNat_setWidth, Nat.mod_eq_of_lt (by omega)]
  have hunpack : unpackFrame (afterAll (pushes reads) s).cfg (afterAll (pushes reads) s).stage =
      ⟨id, n.setWidth 8, paddedSlot n p⟩ := by
    rw [hstage, hcfg, unpackFrame_packFrame s.cfg n p hvalue]
  have hvalid : frameValid id (n.setWidth 8) = true := (frameValidityIsIdAndLength _ _).mpr ⟨hid, by omega⟩
  have haccept := after_rxAccept_of_valid hcap hfull (by rwa [hunpack])
  have hlength : (pushes reads ++ [Instr.rxAccept cap]).length = reads.length + 1 := by
    rw [List.length_append, pushes, List.length_map, List.length_singleton]
  have hrun := run_issue (pushes reads ++ [Instr.rxAccept cap]) s
  rw [hlength, afterAll_append, afterAll_cons, afterAll_nil, haccept, hunpack] at hrun
  rw [expand_tryReceive reads hcap]
  exact ⟨_, hrun, rfl, rfl, rfl, hlen, rfl, fun i hi => (paddedSlot_getElem n p i).trans (if_pos hi)⟩

end Sys2Proof.Machine
end

section
/-! PROOFS. What a command never reads: bytes past its count port (R51) and stale bytes of STAGE (R31, R83). -/

namespace Sys2Proof.Machine

/-! ### Bytes past the count port -/

/-- Only the bytes below the count are in the image (R51, R67). -/
theorem packFrame_congr (cfg : Config) (id : CanId) {n : Word} {p q : Slot} (h : SamePrefix n.toNat p q) :
    packFrame cfg id n p = packFrame cfg id n q := by
  have hslot : slotByte n p = slotByte n q := by
    funext i
    by_cases hi : i.val < n.toNat
    · rw [slotByte, slotByte, h i hi]
    · rw [slotByte, slotByte, if_neg hi, if_neg hi]
  have hbyte : imageByte cfg id n p = imageByte cfg id n q := by
    funext i
    simp only [imageByte, hslot]
  rw [packFrame, packFrame, hbyte]

theorem memWrite_congr (a : Image) (off n : Nat) {b c : Image} (h : SamePrefix n b c) :
    memWrite a off n b = memWrite a off n c := by
  apply Vector.ext
  intro i hi
  by_cases hin : off ≤ i ∧ i < off + n
  · rw [memWrite_getElem_inside a b off n i hi hin, memWrite_getElem_inside a c off n i hi hin]
    exact h ⟨i - off, by omega⟩ (by simp only; omega)
  · rw [memWrite_getElem_outside a b off n i hi hin, memWrite_getElem_outside a c off n i hi hin]

/-- Settles O4: the checks read the count port, not the bytes, and the writes read the bytes below the count. -/
theorem bytesPastTheCountAreNotRead : Obligations.BytesPastTheCountAreNotRead := by
  refine fun s => ⟨fun id n p q h => ?_, fun n a b h => ?_⟩
  · have hsend : prepareSend id n p (prologue s) = prepareSend id n q (prologue s) := by
      rw [prepareSend, prepareSend, packFrame_congr _ id h]
    simp only [exec_eq, after, packFrame_congr s.cfg id h, hsend, and_self]
  · have hchunk : stageChunk a n (prologue s) = stageChunk b n (prologue s) := by
      rw [stageChunk, stageChunk, memWrite_congr _ _ _ h]
    simp only [exec_eq, after, hchunk]

/-! ### Stale bytes of STAGE -/

theorem exists_setStage_of_sameButStale {s s' : State} (h : SameButStale s s') :
    ∃ v, s' = { s with stage := v } ∧ SamePrefix s.stageCnt.toNat s.stage v :=
  ⟨s'.stage, h⟩

/-- An acceptance reads no stale byte: NO_DATA reads the identifier's bytes only when they are staged, and the other two
outcomes read a stage that has no stale byte (R79 to R82). -/
theorem acceptStaged_setStage {s : State} {v : Image} (h : SamePrefix s.stageCnt.toNat s.stage v) :
    acceptStaged { s with stage := v } = { acceptStaged s with stage := v } := by
  by_cases hcnt : s.stageCnt.toNat < 16
  · have hpartial : partialId { s with stage := v } = partialId s := by
      simp only [partialId]
      split
      case isTrue hfour =>
        have hbytes : memRead v 0 4 (by decide) = memRead s.stage 0 4 (by decide) :=
          memRead_congr _ fun i hi => (h ⟨0 + i, by omega⟩ (by simp only; omega)).symm
        rw [hbytes]
      case isFalse => rfl
    simp only [acceptStaged, if_pos hcnt, acceptNoData, hpartial]
  · obtain rfl : s.stage = v := Vector.ext fun i hi => h ⟨i, hi⟩ (by simp only; omega)
    exact congrArg (fun w => { acceptStaged s with stage := w }) (acceptStaged_stage s)

/-- What an instruction writes keeps two states alike but for stale bytes; RX_PUSH alone moves the line between the two
kinds, over bytes that it writes. -/
theorem sameButStale_writes (i : Instr) {s : State} {v : Image} (h : SamePrefix s.stageCnt.toNat s.stage v) :
    SameButStale (writes i s) (writes i { s with stage := v }) := by
  cases i with
  | rxPush b n =>
    refine ⟨rfl, fun k hk => ?_⟩
    have hkept : k.val < s.stageCnt.toNat + n.toNat :=
      lt_of_lt_of_le hk ((BitVec.toNat_add _ _).trans_le (Nat.mod_le _ _))
    simp only [writes, stageChunk_stage_getElem]
    split
    case isTrue => rfl
    case isFalse hold => exact h k (by omega)
  | rxAccept cap =>
    simp only [writes, acceptStaged_setStage h]
    exact ⟨rfl, fun k hk => absurd hk (Nat.not_lt_zero _)⟩
  | _ => exact ⟨rfl, by simpa [SamePrefix, writes] using h⟩

theorem sameButStale_after (i : Instr) {s s' : State} (h : SameButStale s s') :
    SameButStale (after i s) (after i s') := by
  obtain ⟨v, rfl, hprefix⟩ := exists_setStage_of_sameButStale h
  have herr : errorOf i { s with stage := v } = errorOf i s := errorOf_congr i rfl
  by_cases hnone : errorOf i s = (0, 0)
  · rw [after_of_noError hnone, after_of_noError (herr.trans hnone)]
    exact sameButStale_writes i (s := prologue s) hprefix
  · rw [after_of_error hnone, after_of_error (by rwa [herr]), herr]
    exact ⟨rfl, hprefix⟩

/-- Settles O54, by the host's action: an idle port keeps both states, a reset makes them equal, and a command is one
that both run. -/
theorem staleStageBytesAreNeverRead : Obligations.StaleStageBytesAreNeverRead := by
  intro s s' h
  have hpending : s'.pending = s.pending := by rw [h.1]
  obtain ⟨hidle, hs⟩ | ⟨rest, hreset, -⟩ | ⟨c, rest, hcommand, hs⟩ := step_cases s
  · exact ⟨s, s', hs, idlePortChangesNothing s' (hpending.trans hidle), h⟩
  · have hcfg : s'.cfg = s.cfg := by rw [h.1]
    refine ⟨_, _, hostResetIsAStep s rest hreset, hostResetIsAStep s' rest (hpending.trans hreset), ?_⟩
    rw [hcfg]
    exact ⟨rfl, fun _ _ => rfl⟩
  · refine ⟨_, _, hs, step_command (hpending.trans hcommand), sameButStale_after (decode c) ?_⟩
    obtain ⟨v, rfl, hprefix⟩ := exists_setStage_of_sameButStale h
    exact ⟨rfl, hprefix⟩

end Sys2Proof.Machine
end

section
/-! PROOFS. The invariant, clause by clause: what the one or two instructions that can touch a clause's registers make of
them, every other instruction keeping the clause. -/

namespace Sys2Proof.Machine

/-- A property of the end of every instruction is one of the two ways an instruction ends. -/
theorem after_induction {P : State → Prop} {i : Instr} {s : State} (hraised : P (raised (errorOf i s) s))
    (hwrites : errorOf i s = (0, 0) → P (writes i (prologue s))) : P (after i s) := by
  rw [after_eq]
  split
  case isTrue hnone => exact hwrites hnone
  case isFalse => exact hraised

/-! ### The checks that an instruction without error has passed -/

theorem plen_le_of_framePack {id : CanId} {n : Word} {p : Slot} {s : State}
    (h : errorOf (.framePack id n p) s = (0, 0)) : n.toNat ≤ 8 := by
  by_contra hlong
  simp [errorOf, Nat.not_le.mp hlong] at h

theorem checks_of_txPrep {id : CanId} {n : Word} {p : Slot} {s : State} (h : errorOf (.txPrep id n p) s = (0, 0)) :
    idValid id = true ∧ n.toNat ≤ 8 := by
  cases hid : idValid id with
  | false => simp [errorOf, hid] at h
  | true =>
    refine ⟨rfl, ?_⟩
    by_contra hlong
    simp [errorOf, hid, Nat.not_le.mp hlong] at h

theorem count_le_of_rxPush {b : Image} {n : BitVec 5} {s : State} (h : errorOf (.rxPush b n) s = (0, 0)) :
    s.stageCnt.toNat + n.toNat ≤ 16 := by
  by_contra hlong
  simp [errorOf, Nat.not_le.mp hlong] at h

theorem idValid_of_filterGen {id : CanId} {s : State} (h : errorOf (.filterGen id) s = (0, 0)) :
    idValid id = true := by
  by_contra hid
  simp [errorOf, hid] at h

/-! ### The clauses -/

/-- R32: RX_PUSH checks the sum, and RX_ACCEPT empties the stage. -/
theorem stageCountLegal_after (i : Instr) {s : State} (h : StageCountLegal s) : StageCountLegal (after i s) := by
  refine after_induction h fun hnone => ?_
  cases i with
  | rxPush b n =>
    have hfits := count_le_of_rxPush hnone
    exact (stageChunk_stageCnt_toNat b (s := prologue s) hfits).trans_le hfits
  | rxAccept cap => exact Nat.zero_le _
  | _ => simpa [StageCountLegal, writes] using h

/-- The pairs of the cause table: a detail goes with INVALID_ARGUMENT and with no other code (R28, R29, R95). -/
theorem errorOf_legal (i : Instr) (s : State) :
    (errorOf i s).1 ≠ 3 ∧ (errorOf i s).2.toNat ≤ 4 ∧ ((errorOf i s).1 = 1 ↔ (errorOf i s).2 ≠ 0) := by
  cases i with
  | framePack | txPrep | rxPush | rxAccept | filterGen =>
    simp only [errorOf]
    split_ifs <;> decide
  | _ =>
    simp only [errorOf]
    decide

theorem errorFieldsLegal_after (i : Instr) (s : State) : ErrorFieldsLegal (after i s) := by
  have h := errorOf_legal i s
  rw [← after_error] at h
  exact h

/-- R27: the one instruction that strobes has checked the frame it packs. -/
theorem strobeHoldsValidFrame_after (i : Instr) (s : State) : StrobeHoldsValidFrame (after i s) := by
  intro hstrobe
  obtain ⟨-, hwriter⟩ := strobeMeansTheLastCommandPreparedASend
  obtain ⟨id, n, p, rfl, hcode⟩ := (hwriter i s _ (exec_eq i s)).mp hstrobe
  have hnone : errorOf (.txPrep id n p) s = (0, 0) := by
    by_contra hraises
    rw [after_of_error hraises] at hstrobe
    exact Bool.false_ne_true hstrobe
  obtain ⟨hid, hn⟩ := checks_of_txPrep hnone
  obtain ⟨-, hvalue⟩ := idValid_bounds hid
  have hlen : (n.setWidth 8).toNat ≤ 8 := by
    rw [BitVec.toNat_setWidth]
    exact (Nat.mod_le _ _).trans hn
  refine ⟨hcode, ?_⟩
  rw [after_txPrep_of_le p s hid hn, prepareSend_cfg, prepareSend_rFrame, unpackFrame_packFrame _ n p hvalue]
  exact (frameValidityIsIdAndLength _ _).mpr ⟨hid, hlen⟩

/-- R39 to R41: a packed image is clean. -/
theorem frameImageClean_of_packFrame {cfg : Config} {id : CanId} {n : Word} {p : Slot} {s : State} (hn : n.toNat ≤ 8)
    (h : s.rFrame = packFrame cfg id n p) : FrameImageClean s := by
  obtain ⟨h5, h6, h7⟩ := packFrame_padding cfg id n p
  have hlen := packFrame_lenByte_toNat cfg id p hn
  simp only [FrameImageClean, h, hlen]
  refine ⟨hn, h5, h6, h7, fun i hi => ?_⟩
  rw [packFrame_slotByte cfg id n p i i.isLt]
  exact if_neg (Nat.not_lt.mpr hi)

theorem frameImageClean_after (i : Instr) {s : State} (h : FrameImageClean s) : FrameImageClean (after i s) := by
  refine after_induction h fun hnone => ?_
  cases i with
  | framePack id n p => exact frameImageClean_of_packFrame (plen_le_of_framePack hnone) rfl
  | txPrep id n p =>
    obtain ⟨-, hn⟩ := checks_of_txPrep hnone
    exact frameImageClean_of_packFrame hn rfl
  | rxAccept cap => simpa [FrameImageClean, writes] using h
  | _ => exact h

/-- R20: every identifier that the block reports is decoded, or the default one. -/
theorem partialId_value_le (s : State) : (partialId s).value.toNat ≤ 0x1FFFFFFF := by
  unfold partialId
  split
  · exact masked_le _
  · exact Nat.zero_le _

theorem idValueMasked_after (i : Instr) {s : State} (h : IdValueMasked s) : IdValueMasked (after i s) := by
  refine after_induction h fun _ => ?_
  cases i with
  | idDecode raw => exact masked_le _
  | frameUnpack w => exact masked_le _
  | rxAccept cap =>
    simp only [writes, IdValueMasked, releaseStage_rId]
    obtain ⟨-, houtcome⟩ | ⟨-, -, houtcome⟩ | ⟨-, -, houtcome⟩ := acceptStaged_cases (prologue s)
    · rw [houtcome]
      exact partialId_value_le _
    · rw [houtcome]
      exact masked_le _
    · rw [houtcome]
      exact masked_le _
  | _ => exact h

theorem byteEnable_toNat {len : BitVec 8} (hlen : len.toNat ≤ 8) : (byteEnable len).toNat = 2 ^ len.toNat - 1 := by
  have hpow : 2 ^ len.toNat ≤ 2 ^ 8 := Nat.pow_le_pow_right (by decide) hlen
  rw [byteEnable_eq, BitVec.toNat_ofNat, Nat.mod_eq_of_lt (by omega)]

/-- R25, R80 to R82: OK enables the bytes of a legal length, the other outcomes none. -/
theorem byteEnableLegal_after (i : Instr) {s : State} (h : ByteEnableLegal s) : ByteEnableLegal (after i s) := by
  refine after_induction h fun _ => ?_
  cases i with
  | rxAccept cap =>
    simp only [writes, ByteEnableLegal, releaseStage_rBe, releaseStage_rxStatus]
    obtain ⟨-, houtcome⟩ | ⟨-, -, houtcome⟩ | ⟨-, hvalid, houtcome⟩ := acceptStaged_cases (prologue s)
    · rw [houtcome]
      exact ⟨⟨0, rfl⟩, fun _ => rfl⟩
    · rw [houtcome]
      exact ⟨⟨0, rfl⟩, fun _ => rfl⟩
    · obtain ⟨-, hlen⟩ := (frameValidityIsIdAndLength _ _).mp hvalid
      rw [houtcome, acceptOk_rBe, acceptOk_rxStatus]
      exact ⟨⟨⟨_, Nat.lt_succ_of_le hlen⟩, byteEnable_toNat hlen⟩, fun hnot => absurd rfl hnot⟩
  | _ => simpa [ByteEnableLegal, writes] using h

/-- R87: the mask of a valid id covers its raw word and lacks the ERR bit. -/
theorem filterMask_and_errBit {cfg : Config} {id : CanId} (hid : idValid id = true) :
    filterMask cfg id &&& errBit cfg = 0 := by
  obtain ⟨-, -, hmaskErr, -⟩ := filterMaskCoversTheFilterId cfg id hid
  apply BitVec.eq_of_getLsbD_eq
  intro j hj
  have hbit : (errBit cfg).getLsbD j = decide (j = errPos cfg.flags) := bitAt_getLsbD _ j hj
  rw [BitVec.getLsbD_and, hbit]
  by_cases herr : j = errPos cfg.flags
  · subst herr
    simp [hmaskErr]
  · simp [herr]

theorem filterPairLegal_after (i : Instr) {s : State} (h : FilterPairLegal s) : FilterPairLegal (after i s) := by
  refine after_induction h fun hnone => ?_
  cases i with
  | filterGen id =>
    have hid := idValid_of_filterGen hnone
    obtain ⟨-, -, -, -, -, hcovers⟩ := filterMaskCoversTheFilterId s.cfg id hid
    exact ⟨hcovers, filterMask_and_errBit hid⟩
  | _ => simpa [FilterPairLegal, writes] using h

/-! ### The invariant -/

theorem stateInv_after (i : Instr) {s : State} (h : StateInv s) : StateInv (after i s) := by
  obtain ⟨hcnt, -, -, hclean, hvalue, hbe, hfilter⟩ := h
  exact ⟨stageCountLegal_after i hcnt, errorFieldsLegal_after i s, strobeHoldsValidFrame_after i s,
    frameImageClean_after i hclean, idValueMasked_after i hvalue, byteEnableLegal_after i hbe,
    filterPairLegal_after i hfilter⟩

/-- Settles O55, by evaluating the clauses at the one state. -/
theorem invariantHoldsAtReset : Obligations.InvariantHoldsAtReset := by
  unfold Obligations.InvariantHoldsAtReset
  decide

/-- Of the parameters, which a reset keeps, the invariant sees the place of the ERR bit alone, and the mask is zero. -/
theorem stateInv_resetBlock (s : State) : StateInv (resetBlock s) := by
  obtain ⟨hcnt, herr, -, hclean, hvalue, hbe, -⟩ := invariantHoldsAtReset
  exact ⟨hcnt, herr, fun hstrobe => absurd hstrobe Bool.false_ne_true, hclean, hvalue, hbe, BitVec.zero_and,
    BitVec.zero_and⟩

/-- Settles O56, by the three things a step can do; taking an action off the list touches no clause. -/
theorem everyStepKeepsTheInvariant : Obligations.EveryStepKeepsTheInvariant := by
  intro s t hinv ht
  obtain ⟨-, h⟩ | ⟨rest, -, h⟩ | ⟨c, rest, -, h⟩ := step_cases s
  all_goals
    rw [h] at ht
    obtain rfl := Host.Outcome.next.inj ht
  · exact hinv
  · exact stateInv_resetBlock _
  · exact stateInv_after (decode c) (s := { s with pending := rest }) hinv

end Sys2Proof.Machine
end
